-- ==== Sys2Proof/Word.lean ====
section
/-! DEFINITION. The word types of the aligner: bytes, the 16-bit and 32-bit words that cross a link, and nothing else. -/

namespace Sys2Proof

/-- One byte of a carriage link, of the TOD line or of the symbol store. -/
abbrev Byte := BitVec 8

/-- A 16-bit word: a batch number, an address, a CRC-16 or a modulation word. -/
abbrev Word16 := BitVec 16

/-- A 32-bit word: a second count or a counter. -/
abbrev Word32 := BitVec 32

end Sys2Proof
end

