-- ==== Sys2Proof/Config.lean ====
section
/-! DEFINITION. What the part fixes (the sizes the manual states) and the FREE VALUES: constants without a body, so that
nothing can be proved of the value they give. Each is applied to the model's own counter `State.free`, which advances at
every step that reads one. -/

namespace Sys2Proof.Config

/-- Ticks in one second (00_scope, Conventions: a tick is 100 ns). -/
abbrev ticksPerSecond : Nat := 10000000
/-- Slots of the batch table (R106). -/
abbrev slots : Nat := 32
/-- Blocks of the symbol store (06_symbol_store). -/
abbrev blocks : Nat := 1024
/-- Bytes of one block (R97). -/
abbrev blockBytes : Nat := 64
/-- Symbols of one block (R97). -/
abbrev blockSymbols : Nat := 256
/-- Symbols of every part but the last (R82). -/
abbrev partSymbols : Nat := 1024
/-- Parts of a batch at most (R82). -/
abbrev maxParts : Nat := 16
/-- Entries of the launch history (R168). -/
abbrev historySize : Nat := 64
/-- Frame buffers of one link (R66). -/
abbrev frameBuffers : Nat := 2
/-- Places of one reply queue (R70). -/
abbrev replyPlaces : Nat := 4
/-- Largest accepted body length (R62). -/
abbrev maxBody : Nat := 288
/-- Counters of the part (R171). -/
abbrev counters : Nat := 50
/-- Where the holdover uncertainty saturates, in milliticks (R15). -/
abbrev maxU : Nat := 2147483647
/-- LO periods without a REF edge after which REF is judged absent: 2 µs (R1). -/
abbrev refLostPeriods : Nat := 20
/-- LO periods of continuous REF activity after which REF is judged present: 100 ms (R1). -/
abbrev refBackPeriods : Nat := 1000000
/-- Ticks without a PPS edge after which the PPS missing event is raised: 1.5 s (R2). -/
abbrev ppsMissingTicks : Nat := 15000000
/-- LO periods in one millisecond. -/
abbrev periodsPerMs : Nat := 10000
/-- LO periods in one second. -/
abbrev periodsPerSecond : Nat := 10000000
/-- LO periods after which a waiting multi-frame READ ends by stall: 2 s (R72). -/
abbrev stallPeriods : Nat := 20000000
/-- LO periods within which a STORE's write and verify end: 400 ms (R37). -/
abbrev storePeriods : Nat := 4000000

/-! ### Free values of the outside world, one reading for each idle step (log 6) -/

/-- Does an LO cycle begin at the n-th idle step? -/
opaque loCycle : Nat → Bool
/-- Does a REF edge arrive at the n-th idle step? -/
opaque refEdge : Nat → Bool
/-- Is the receive line of link A (false) or B (true) idle, no start bit seen, at the n-th idle step? -/
opaque lineIdle : Nat → Bool → Bool
/-- Does TXRDY rise at the n-th idle step? (A rise has no effect, R150, and the table has no row for it.) -/
opaque txrdyRises : Nat → Bool
/-- Does the admission engine become free at the n-th idle step? The moment is not fixed (R68). -/
opaque admissionFrees : Nat → Bool
/-- Do a STORE's write and verify end at the n-th idle step? The moment is not fixed (R37). -/
opaque storeEnds : Nat → Bool
/-- Does the verify of a STORE that ends at the n-th idle step find the copy as written? (R37) -/
opaque storeVerifies : Nat → Bool
/-- Has the last byte of the head reply of link A (false) or B (true) been sent at the n-th idle step? (R70) -/
opaque replyEnds : Nat → Bool → Bool
/-- Which of the events due at one instant is taken first at the n-th idle step: the manual takes them in either order. -/
opaque dueOrder : Nat → Nat
/-- A disturbance of a stored byte of the symbol store at the n-th idle step (R104): which byte, and what it holds then. -/
opaque disturbance : Nat → Option (Fin 65536 × Byte)
/-- Which bits of byte i of the nonvolatile copy a write that is not known to be sound has reached, the n-th time: the
copy may hold the new snapshot, the old one or a mixture (R38). -/
opaque nvWritten : Nat → Nat → Byte

/-! ### What a code that no table lists stands for, in a record that a recall put in place (log 13) -/

/-- Does the level set of this code send four levels (true), or the binary pair? -/
opaque unlistedFour : Byte → Bool
/-- Does the late policy of this code drop (true), or join? -/
opaque unlistedDrops : Byte → Bool
/-- Which zone mode this code acts as: OFF, TRACK or LAUNCH for 0, 1 or 2. -/
opaque unlistedZone : Byte → Fin 3
/-- Is link B (true) or link A the preferred link of this code? -/
opaque unlistedPrefersB : Byte → Bool

end Sys2Proof.Config
end

