-- ==== Sys2Proof/Syntax.lean ====
section
/-! DEFINITION. The commands of the aligner: one constructor for each row of spec/opcode_table.json. The table gives its
rows no operands; those below are what the rule of each row needs to be told from outside (log 4). -/

namespace Sys2Proof

/-- The two carriage links (R60). -/
inductive Link where
  | a
  | b
deriving DecidableEq, Repr

/-- How a management frame was addressed (R79). -/
inductive Addressing where
  | unicast
  | group
  | broadcast
deriving DecidableEq, Repr

/-- What admission hands to the management engine beside the request code and the parameters (R79, R154): the link the
frame came in on, its addressing, the destination address it carried and its request tag. -/
structure Handed where
  link : Link
  addressing : Addressing
  dest : Word16
  tag : Byte
deriving DecidableEq, Repr

/-- A slot of the batch table (R106). -/
abbrev Slot := Fin Config.slots

/-- The commands, in the families of the manual's chapters. A request row carries the raw parameter bytes, so that a
request of a wrong length (R157) is a command like any other. -/
inductive Instr where
  /-- Power-up or the RESET input (R18). -/
  | coldStart
  /-- The reference monitor finds no REF edge for 2 µs (R1). -/
  | refLost
  /-- The reference monitor has seen 100 ms of REF (R1). -/
  | refBack
  /-- A rising edge on PPS (R2). -/
  | ppsEdge
  /-- The PPS monitor has counted 1.5 s without an edge (R2). -/
  | ppsMissing
  /-- A 0xD7 byte on the TOD line, with a stop-bit error or not (R3). -/
  | todLeadByte (stopError : Bool)
  /-- The six bytes that complete a TOD message: bit i of `faults` is a stop-bit error on the i-th of them (R3, R177). -/
  | todMessage (second : Word32) (quality check : Byte) (faults : BitVec 6)
  /-- The advance of the site clock from tick 9 999 999 to the next second (R4, R15). -/
  | secondBoundary
  /-- The pending profile switch is taken (R34). -/
  | switchEvent
  /-- A byte of value 0xA3 on a link (R61). -/
  | leadByte (l : Link)
  /-- A byte of a frame attempt (R62, R63). -/
  | frameByte (l : Link) (b : Byte)
  /-- The second length byte (R62). -/
  | lengthEnd (l : Link) (b : Byte)
  /-- The second check byte (R63). -/
  | frameEnd (l : Link) (b : Byte)
  /-- A byte with a stop-bit error (R64). -/
  | badChar (l : Link)
  /-- The gap timer expires (R65). -/
  | gap (l : Link)
  /-- The silence timer runs out (R67). -/
  | silenceTimeout (l : Link)
  /-- The admission engine becomes free (R68). -/
  | admissionFree
  /-- The assembly deadline of the record in a slot comes due (R109). -/
  | deadline (slot : Slot)
  /-- The kept end of the late record in a slot comes due (R112). -/
  | keptEndWhileLate (slot : Slot)
  /-- The kept key-up of the record in a slot comes due (R113). -/
  | keyUp (slot : Slot)
  /-- The kept launch of the READY record in a slot has passed (R113). -/
  | missedLaunch (slot : Slot)
  /-- The retirement instant of the SHADOW record in a slot comes due (R115). -/
  | retirement (slot : Slot)
  /-- The kept launch of the current record (R141). -/
  | launch
  /-- A carry of the phase accumulator (R142). -/
  | pacerCarry
  /-- The next block of the current record is read (R103). -/
  | blockRead
  /-- The tail end instant is reached (R147). -/
  | tailEnd
  /-- A fall of TXRDY (R150). -/
  | txrdyFall
  /-- STATUS (R158). -/
  | status (h : Handed) (params : List Byte)
  /-- READ (R159). -/
  | read (h : Handed) (params : List Byte)
  /-- WRITE (R161). -/
  | write (h : Handed) (params : List Byte)
  /-- DIGEST (R162). -/
  | digest (h : Handed) (params : List Byte)
  /-- SWITCH (R32). -/
  | switch (h : Handed) (params : List Byte)
  /-- CANCEL_SWITCH (R33). -/
  | cancelSwitch (h : Handed) (params : List Byte)
  /-- STORE (R37). -/
  | store (h : Handed) (params : List Byte)
  /-- RECALL (R39). -/
  | recall (h : Handed) (params : List Byte)
  /-- ABORT (R118, R164). -/
  | abort (h : Handed) (params : List Byte)
  /-- ACK_ALARMS (R165). -/
  | ackAlarms (h : Handed) (params : List Byte)
  /-- CLEAR_COUNTERS (R165). -/
  | clearCounters (h : Handed) (params : List Byte)
  /-- SET_LINK_RATE (R166). -/
  | setLinkRate (h : Handed) (params : List Byte)
  /-- RESTART (R167). -/
  | restart (h : Handed) (params : List Byte)
  /-- A request whose code is none of the thirteen (R155). -/
  | notUnderstood (h : Handed) (code : Byte) (params : List Byte)
  /-- A STORE's write and verify end; the verify found the copy as written, or did not (R37). -/
  | storeComplete (verified : Bool)
  /-- The next frame of a multi-frame READ is made and placed (R72, R160). -/
  | readFramePlaced
  /-- A multi-frame READ has waited 2 s (R72). -/
  | readStall
  /-- The last byte of the head reply of a link has been sent (R70). -/
  | replySent (l : Link)
  /-- The warm restart that a RESTART called for (R167). -/
  | warmRestart
deriving DecidableEq, Repr

end Sys2Proof
end

