-- ==== Sys2Proof/Decode.lean ====
section
/-! DEFINITION. The command that a word spells by the bits of spec/opcode_table.json. No row of that table gives bits
(its reader's counts: n_rows_with_fixed 0), so no word spells a command (log 34). -/

namespace Sys2Proof

/-- The command spelt by `nbits` bits of value `w`: none, since no row of the table has bits. -/
def decodeTableWord (_nbits _w : Nat) : Option Instr := none

end Sys2Proof
end

