-- ==== Sys2Proof/Machine/Types.lean ====
section
/-! DEFINITION. The types the state is made of, block by block in the order of the manual's chapters. Data only. -/

namespace Sys2Proof.Machine

/-! ### Instants (R43) -/

/-- A point in time: a second count, which wraps, and a tick within the second (R43). -/
structure Instant where
  sec : Word32
  tick : Fin Config.ticksPerSecond
deriving DecidableEq, Repr

/-! ### Site time (01_site_time) -/

/-- The clock states; the has-estimate flag has meaning in ACQUIRING alone and stands there (log 37). -/
inductive ClockState where
  | unset
  | acquiring (hasEstimate : Bool)
  | locked
  | holdover
deriving DecidableEq, Repr

/-- The TOD message for the coming edge: its second count, and whether its quality is 1, a fix (R3). -/
structure TodMsg where
  second : Word32
  fix : Bool
deriving DecidableEq, Repr

/-- A TOD message in progress: the bytes taken after the lead byte, and whether a byte so far, the lead byte among
them, had a stop-bit error (R3). -/
structure TodPart where
  bytes : List Byte
  faulty : Bool
deriving DecidableEq, Repr

/-- The site time unit. -/
structure TimeUnit where
  /-- The site clock (R4). -/
  clock : Instant
  /-- The clock state, with the has-estimate flag. -/
  state : ClockState
  /-- The holdover uncertainty U, in milliticks (R15). -/
  u : Nat
  /-- The consistency run (R7). -/
  run : Nat
  /-- The outlier run (R12). -/
  outliers : Nat
  /-- The quality-0 run (R13). -/
  qualityZero : Nat
  /-- The step-pending flag (R9). -/
  stepPending : Bool
  /-- REF is judged present (R1). -/
  refPresent : Bool
  /-- LO periods since the last REF edge (R1). -/
  refQuiet : Nat
  /-- The 100 ms timing in progress while REF is judged absent, in LO periods (R1). -/
  refTiming : Option Nat
  /-- The PPS monitor's count of tick advances since the last edge; none while it counts towards no event (R2). -/
  pps : Option Nat
  /-- REF cycles since the previous PPS edge; none when the next spacing cannot be valid (R5). -/
  spacing : Option Nat
  /-- The TOD receiver: none while hunting (R3). -/
  tod : Option TodPart
  /-- The TOD message for the coming edge (R3). -/
  coming : Option TodMsg
  /-- The previous TOD second (R3, R7). -/
  previous : Option Word32
deriving DecidableEq, Repr

/-! ### Alignment profiles and stored settings (02) -/

/-- The zone modes (R22); a code that is none of them stands in a recalled row alone (log 13). -/
inductive ZoneMode where
  | off
  | track
  | launch
  | unlisted (code : Byte)
deriving DecidableEq, Repr

/-- The level sets (R21, R143); a code that is none of them stands in a recalled row alone (log 13). -/
inductive LevelSet where
  | four
  | two
  | unlisted (code : Byte)
deriving DecidableEq, Repr

/-- The late policies (R21); a code that is none of them stands in a recalled row alone (log 13). -/
inductive LatePolicy where
  | drop
  | join
  | unlisted (code : Byte)
deriving DecidableEq, Repr

/-- The preferred link as the settings record holds it (R24); a code that names no link stands in a recalled record alone
(log 13). -/
inductive Preferred where
  | link (l : Link)
  | unlisted (code : Byte)
deriving DecidableEq, Repr

/-- A row of a mode table (R21). -/
structure ModeRow where
  rate : Nat
  offset : Int
  keyLead : Nat
  tail : Nat
  rest : Word16
  levels : Vector Word16 4
  levelSet : LevelSet
  late : LatePolicy
  joinMin : Nat
  tolerance : Nat
deriving DecidableEq, Repr

/-- A row of a zone table (R22). -/
structure ZoneRow where
  mode : ZoneMode
  offset : Int
deriving DecidableEq, Repr

/-- A working profile (R20). -/
structure Profile where
  siteOffset : Int
  modes : Vector ModeRow 8
  zones : Vector ZoneRow 64
deriving DecidableEq, Repr

/-- The settings record (R24). -/
structure Settings where
  siteAddress : Word16
  groups : Vector Word16 4
  rateA : Nat
  rateB : Nat
  preferred : Preferred
  rotation : Nat
  gapLimit : Nat
  silence : Nat
  setupMargin : Nat
  maxLead : Nat
  guard : Nat
  bridgeLimit : Nat
  acqCount : Nat
  holdoverRate : Nat
  alarmEnable : Byte
deriving DecidableEq, Repr

/-- A pending profile switch (R32). -/
structure PendingSwitch where
  target : Fin 4
  second : Word32
deriving DecidableEq, Repr

/-- The nonvolatile copy: the 2100 stored bytes and their CRC-16 (R37, R178). -/
structure NvCopy where
  bytes : List Byte
  check : Word16
deriving DecidableEq, Repr

/-- The profile store. The dependent count is the number of records with a dependent mark (R28) and is not stored
again; store-in-progress is the management engine's operation (R37). -/
structure ProfileStore where
  profiles : Vector Profile 4
  settings : Settings
  active : Fin 4
  pending : Option PendingSwitch
  nv : NvCopy
  /-- The NV condition (R38). -/
  nvFault : Bool
deriving DecidableEq, Repr

/-! ### Carriage links (04) -/

/-- The receive deframer with the frame attempt in progress (R61 to R63). -/
inductive Deframer where
  | hunt
  /-- The first length byte, once taken. -/
  | length (first : Option Byte)
  /-- The body length and the body bytes taken, newest last. -/
  | body (len : Nat) (got : List Byte)
  /-- The body, and the first check byte, once taken. -/
  | check (got : List Byte) (first : Option Byte)
deriving DecidableEq, Repr

/-- The gap timer while it runs: idle LO periods, and the limit read when it was started, in LO periods (R65). -/
structure GapTimer where
  elapsed : Nat
  limit : Nat
deriving DecidableEq, Repr

/-- A rate change waiting for replies: the code, and how many frames of the reply queue are still to be sent (R73). -/
structure RateChange where
  code : Nat
  after : Nat
deriving DecidableEq, Repr

/-- One carriage link. Its counters stand with the other counters (R75). -/
structure CarriageLink where
  /-- The rate code the line runs at. -/
  lineRate : Nat
  rateChange : Option RateChange
  deframer : Deframer
  gapTimer : Option GapTimer
  /-- The bodies held in the frame buffers, oldest first (R66). -/
  buffers : List (List Byte)
  up : Bool
  /-- LO periods the silence timer has run; it runs while the link is UP (R67). -/
  silence : Nat
  /-- The reply frames, head first (R70). -/
  replies : List (List Byte)
  /-- The rate code at which the head frame is being sent; none while the transmitter is idle or holds (R70, R74). -/
  sending : Option Nat
deriving DecidableEq, Repr

/-- The admission arbiter and the admission engine's one piece of state (R68, R69). -/
structure Arbiter where
  occupied : Bool
  runCount : Nat
  /-- The link the run count belongs to. -/
  runLink : Link
deriving DecidableEq, Repr

/-! ### Symbol store (06) -/

/-- A block number (06_symbol_store). -/
abbrev Block := Fin Config.blocks

/-- The bytes of the block pool by address, 64 × block number + byte number: a list in one canonical form (addresses
strictly rising, no entry equal to what an unlisted address reads as, 0). -/
abbrev Memory := List Host.Cell

/-- The symbol store. The chains stand in the records (R100). -/
structure SymbolStore where
  memory : Memory
  /-- The check code beside each block (R97). -/
  checks : Vector Word16 Config.blocks
  /-- The free list, head first (R98). -/
  free : List Block
deriving DecidableEq, Repr

/-! ### The batch table (07) -/

/-- The outcomes, in outcome-code order (R169, R180). -/
inductive BatchOutcome where
  | launched
  | trimmed
  | joined
  | tracked
  | muted
  | notReady
  | droppedLate
  | droppedIncomplete
  | droppedConflict
  | aborted
  | storeFault
deriving DecidableEq, Repr

/-- The states of a record while it holds a slot (07, Record states). -/
inductive RecordState where
  | assembling
  | ready
  | keying
  | onAir
  | shadow
deriving DecidableEq, Repr

/-- The stop of an ON_AIR record: the symbol after which it stops and the outcome that set it (R119, R104). -/
structure Stop where
  symbol : Nat
  outcome : BatchOutcome
deriving DecidableEq, Repr

/-- A record of the batch table (R106). -/
structure Record where
  number : Word16
  zone : Fin 64
  mode : Fin 8
  cls : Fin 4
  tag : Instant
  total : Nat
  partCount : Nat
  profileUsed : Fin 4
  row : ModeRow
  dependent : Bool
  launch : Instant
  inc : Nat
  nominalEnd : Instant
  j : Nat
  k : Nat
  keptKeyUp : Instant
  deadline : Instant
  late : Bool
  joined : Bool
  /-- The parts-present set: part i is bit i (R106, R180). -/
  parts : BitVec 16
  /-- The per-part chains; [] for an absent one (R100). -/
  chains : Vector (List Block) 16
  sourceA : Bool
  sourceB : Bool
  state : RecordState
  shadow : Option BatchOutcome
  stop : Option Stop
  sent : Nat
deriving DecidableEq, Repr

/-! ### Keying (09) -/

/-- The states of the keying sequencer (R137). -/
inductive SeqState where
  | idle
  | lead
  | symbols
  | hold
  | tail
deriving DecidableEq, Repr

/-- The keying sequencer and the transmitter port; KEY is the state not being IDLE (R137, R138). -/
structure Sequencer where
  state : SeqState
  current : Option Slot
  bridged : Option Slot
  restRow : Option ModeRow
  endInstant : Option Instant
  tailEnd : Option Instant
  /-- MOD. -/
  mod : Word16
  /-- MODSTB in this tick. -/
  modstb : Bool
  /-- TXRDY. -/
  txrdy : Bool
deriving DecidableEq, Repr

/-- A block as it was read: its number in the batch's symbol sequence, 256 symbols each, and its bytes (R103). -/
structure BlockImage where
  index : Nat
  bytes : List Byte
deriving DecidableEq, Repr

/-- The symbol pacer (R58, R142). -/
structure Pacer where
  /-- The phase accumulator, holding a carry until the PACER_CARRY event takes it (log 25). -/
  acc : Nat
  /-- The symbol in progress, m. -/
  symbol : Nat
  block : Option BlockImage
  next : Option BlockImage
deriving DecidableEq, Repr

/-! ### Management (10) -/

/-- A STORE in progress: the snapshot being written, the request, and the LO periods run (R37, R163). -/
structure StoreOp where
  snapshot : List Byte
  handed : Handed
  elapsed : Nat
deriving DecidableEq, Repr

/-- A multi-frame READ in progress: the request, the table identifier, the next row, the row its range ends before, the
next frame index, and the stall timer in LO periods (R160, R72). -/
structure ReadOp where
  handed : Handed
  table : Byte
  next : Nat
  stop : Nat
  frame : Nat
  stall : Nat
deriving DecidableEq, Repr

/-- The management engine (R154). -/
inductive Engine where
  | free
  | storing (op : StoreOp)
  | reading (op : ReadOp)
deriving DecidableEq, Repr

/-! ### History, counters and alarms (11) -/

/-- An entry of the launch history (R169). -/
structure HistoryEntry where
  number : Word16
  zone : Fin 64
  mode : Fin 8
  cls : Fin 4
  outcome : BatchOutcome
  sourceA : Bool
  sourceB : Bool
  launch : Instant
  /-- The first kept symbol, shown as the smaller of j and n (R180). -/
  j : Nat
  sent : Nat
deriving DecidableEq, Repr

/-- The dispositions of a frame attempt, in counter order (R75, R180). -/
inductive Disposition where
  | good
  | badCheck
  | empty
  | oversize
  | badChar
  | gap
  | overrun
deriving DecidableEq, Repr

/-- The counters of one link (R75). -/
inductive LinkCounter where
  | attempt (d : Disposition)
  | partsTaken
  | replyLost
  | repliesSent
deriving DecidableEq, Repr

/-- The admission counters, in counter order (R95, R180). -/
inductive AdmissionCounter where
  | noTime
  | badPart
  | badTag
  | lateCopy
  | mismatch
  | duplicate
  | zoneOff
  | noMode
  | tooEarly
  | tableFull
  | storeFull
  | foreign
  | unknownKind
  | takenToShadow
deriving DecidableEq, Repr

/-- The management counters (R154, R156, R72). -/
inductive MgmtCounter where
  | requestsTaken
  | busyAnswers
  | busyDiscards
  | stallEnds
deriving DecidableEq, Repr

/-- The fifty counters (R171). -/
inductive Counter where
  | link (l : Link) (c : LinkCounter)
  | admission (c : AdmissionCounter)
  | outcome (o : BatchOutcome)
  | mgmt (c : MgmtCounter)
  | todFailures
deriving DecidableEq, Repr

/-- The eight alarms (R173), in the bit order of the alarm set (R177). -/
inductive Alarm where
  | clock
  | linkA
  | linkB
  | nv
  | muted
  | tx
  | store
  | overload
deriving DecidableEq, Repr

end Sys2Proof.Machine
end

