-- ==== Sys2Proof/Machine/Defaults.lean ====
section
/-! DEFINITION. The factory profile and the default settings (R23, R24). -/

namespace Sys2Proof.Machine

/-- A mode row of the factory profile: unused (R23). -/
def factoryMode : ModeRow where
  rate := 0
  offset := 0
  keyLead := 0
  tail := 0
  rest := 0
  levels := Vector.replicate 4 0
  levelSet := .four
  late := .drop
  joinMin := 1
  tolerance := 0

/-- A zone row of the factory profile (R23). -/
def factoryZone : ZoneRow where
  mode := .off
  offset := 0

/-- The factory profile (R23). -/
def factoryProfile : Profile where
  siteOffset := 0
  modes := Vector.replicate 8 factoryMode
  zones := Vector.replicate 64 factoryZone

/-- The settings record with every field at its default (R24). -/
def defaultSettings : Settings where
  siteAddress := 0xFFFE
  groups := Vector.replicate 4 0
  rateA := 5
  rateB := 5
  preferred := .link .a
  rotation := 4
  gapLimit := 10
  silence := 10
  setupMargin := 50000
  maxLead := 30
  guard := 2000
  bridgeLimit := 500000
  acqCount := 3
  holdoverRate := 50
  alarmEnable := 0xFF

/-- A carriage link after a cold start, its line at the given rate code (R76). -/
def coldLink (rate : Nat) : CarriageLink where
  lineRate := rate
  rateChange := none
  deframer := .hunt
  gapTimer := none
  buffers := []
  up := false
  silence := 0
  replies := []
  sending := none

/-- The site time unit after a cold start (R18). -/
def coldTime : TimeUnit where
  clock := ⟨0, 0⟩
  state := .unset
  u := 0
  run := 0
  outliers := 0
  qualityZero := 0
  stepPending := false
  refPresent := false
  refQuiet := 0
  refTiming := none
  pps := none
  spacing := none
  tod := none
  coming := none
  previous := none

/-- The keying sequencer after a restart, TXRDY as the transmitter drives it (R152). -/
def idleSequencer (txrdy : Bool) : Sequencer where
  state := .idle
  current := none
  bridged := none
  restRow := none
  endInstant := none
  tailEnd := none
  mod := 0
  modstb := false
  txrdy := txrdy

/-- The pacer with nothing in progress; its contents are of no account outside SYMBOLS (R142, R152). -/
def idlePacer : Pacer where
  acc := 0
  symbol := 0
  block := none
  next := none

/-- The free list after a restart: the block numbers 0 to 1023 in ascending order (R98, R105). -/
def fullFreeList : List Block := List.finRange Config.blocks

end Sys2Proof.Machine
end

