-- ==== Sys2Proof/Machine/Instants.lean ====
section
/-! DEFINITION. Launch instant arithmetic (03_launch_instant_arithmetic): instants and their differences, the boundary
function, the searches, and the batch number order (R93). Exact integers throughout. -/

namespace Sys2Proof.Machine

/-- The instant of a second count and a tick; a tick above 9 999 999 is taken modulo one second, for use where it is
known to be none (R43). -/
def instantOf (sec : Word32) (tick : Nat) : Instant := ⟨sec, Fin.ofNat _ tick⟩

/-- The signed second difference of two second counts (R44). -/
def secondDiff (a b : Word32) : Int := (a - b).toInt

/-- The difference A − B in ticks (R44). -/
def Instant.diff (a b : Instant) : Int :=
  secondDiff a.sec b.sec * (Config.ticksPerSecond : Int) + ((a.tick.val : Int) - (b.tick.val : Int))

/-- An instant plus a signed tick count, with carry and borrow (R45). -/
def Instant.add (x : Instant) (c : Int) : Instant :=
  let u : Int := (x.tick.val : Int) + c
  let q : Int := u / (Config.ticksPerSecond : Int)
  ⟨x.sec + BitVec.ofInt 32 q, Fin.ofNat _ (u % (Config.ticksPerSecond : Int)).toNat⟩

/-- The site clock has reached X: X − now is zero or negative (R44). -/
def Instant.reached (x now : Instant) : Bool := decide (x.diff now ≤ 0)

/-- The site clock has passed X: X − now is negative (R44). -/
def Instant.passed (x now : Instant) : Bool := decide (x.diff now < 0)

/-- A is earlier than B (R44). -/
def Instant.earlier (a b : Instant) : Bool := decide (a.diff b < 0)

/-- A step from P to Q brings X due: X is later than P and not later than Q, and the step is not one back (R10, R121). -/
def dueAtStep (p q x : Instant) : Bool :=
  decide (0 < q.diff p) && decide (0 < x.diff p) && decide (x.diff q ≤ 0)

/-- The phase increment of a symbol rate (R48). -/
def incOf (rate : Nat) : Nat := (rate * 2 ^ 32 + 5000000) / 10000000

/-- The boundary function: ceil(m × 2^32 / inc) (R49). -/
def ticksOf (inc m : Nat) : Nat := (m * 2 ^ 32 + (inc - 1)) / inc

/-- The first boundary of a batch at or after X, X given as its distance d from N (R51). -/
def firstBoundary (inc : Nat) (d : Int) : Nat :=
  if d ≤ 0 then 0 else (d.toNat - 1) * inc / 2 ^ 32 + 1

/-- The last boundary of a batch at or before X, X given as its distance d from N (R52). -/
def lastBoundary (inc : Nat) (d : Int) : Nat :=
  if d < 0 then 0 else d.toNat * inc / 2 ^ 32

/-- The preload of the phase accumulator for a record that starts at symbol j (R57). -/
def preloadOf (inc j : Nat) : Nat := ticksOf inc j * inc - j * 2 ^ 32

/-- U in ticks, rounded up (R16, R17). -/
def ceilTicks (u : Nat) : Nat := (u + 999) / 1000

/-! ### The quantities of a record -/

/-- The kept launch N + ticks(j) (R53). -/
def Record.keptLaunch (r : Record) : Instant := r.launch.add (ticksOf r.inc r.j)

/-- The kept end N + ticks(k) (R50). -/
def Record.keptEnd (r : Record) : Instant := r.launch.add (ticksOf r.inc r.k)

/-- The nominal end widened by the guard (R50). -/
def Record.widenedEnd (r : Record) (guard : Nat) : Instant := r.nominalEnd.add guard

/-- The record with its kept key-up and deadline formed from its j, the deadline with the setup margin given
(R53, R54). -/
def Record.reformed (r : Record) (margin : Nat) : Record :=
  let keyUp := r.keptLaunch.add (-(r.row.keyLead : Int))
  { r with keptKeyUp := keyUp, deadline := keyUp.add (-(margin : Int)) }

/-! ### Batch number order (R93) -/

/-- Batch number X precedes batch number Y (Conventions, R93). -/
def precedes (x y : Word16) : Bool :=
  let d := (y - x).toNat
  (decide (1 ≤ d) && decide (d ≤ 32767)) || (decide (d = 32768) && decide (x.toNat < y.toNat))

/-- The least unsigned number of a list, `x` being its first. -/
def leastNumber (x : Word16) : List Word16 → Word16
  | [] => x
  | y :: ys => leastNumber (if y.toNat < x.toNat then y else x) ys

/-- The number taken first: the one that precedes every other, and the smallest unsigned number when none does (R93). -/
def firstNumber (ns : List Word16) : Option Word16 :=
  match ns with
  | [] => none
  | n :: rest =>
    match ns.find? (fun x => ns.all (fun y => x == y || precedes x y)) with
    | some x => some x
    | none => some (leastNumber n rest)

end Sys2Proof.Machine
end

