-- ==== Sys2Proof/Machine/Codes.lean ====
section
/-! DEFINITION. Formats and codes (12_formats_and_codes): bytes and signs, the CRC-16, the table rows and images in both
directions, the envelope, and the codes of the enumerated fields. -/

namespace Sys2Proof.Machine

/-! ### Bytes (Conventions: most significant byte first, signed fields in two's complement) -/

/-- The low `n` bytes of a number, most significant first. -/
def bytesOf : Nat → Nat → List Byte
  | 0, _ => []
  | n + 1, v => BitVec.ofNat 8 (v / 256 ^ n) :: bytesOf n v

/-- An unsigned field read most significant byte first. -/
def unsignedOf (bs : List Byte) : Nat := bs.foldl (fun v b => v * 256 + b.toNat) 0

/-- A signed field in two's complement. -/
def signedOf (bs : List Byte) : Int :=
  let v := unsignedOf bs
  if 2 * v < 256 ^ bs.length then (v : Int) else (v : Int) - (256 ^ bs.length : Nat)

/-- A signed value in `n` bytes of two's complement. -/
def signedBytes (n : Nat) (v : Int) : List Byte := bytesOf n (v % (256 ^ n : Nat)).toNat

/-- `n` bytes of a body from an offset. -/
def fieldAt (bs : List Byte) (off n : Nat) : List Byte := (bs.drop off).take n

/-- An unsigned field of a body. -/
def natAt (bs : List Byte) (off n : Nat) : Nat := unsignedOf (fieldAt bs off n)

/-- A signed field of a body. -/
def intAt (bs : List Byte) (off n : Nat) : Int := signedOf (fieldAt bs off n)

/-- An instant as it is carried: the second count and the tick, 4 bytes each (R177). -/
def instantBytes (x : Instant) : List Byte := bytesOf 4 x.sec.toNat ++ bytesOf 4 x.tick.val

/-! ### CRC-16 (R178) -/

/-- One bit into the CRC register: shifted left, and combined with the polynomial when its top bit differed from the
incoming bit. -/
def crcBit (r : Word16) (bit : Bool) : Word16 :=
  let shifted := r <<< 1
  if r.msb != bit then shifted ^^^ 0x1021 else shifted

/-- One byte into the CRC register, most significant bit first. -/
def crcByte (r : Word16) (b : Byte) : Word16 :=
  crcBit (crcBit (crcBit (crcBit (crcBit (crcBit (crcBit (crcBit r (b.getLsbD 7)) (b.getLsbD 6)) (b.getLsbD 5))
    (b.getLsbD 4)) (b.getLsbD 3)) (b.getLsbD 2)) (b.getLsbD 1)) (b.getLsbD 0)

/-- The CRC-16 of a run of bytes. -/
def crc16 (bs : List Byte) : Word16 := bs.foldl crcByte 0xFFFF

/-- A frame: lead byte, body length, body, check (R177). -/
def frameOf (body : List Byte) : List Byte :=
  0xA3 :: bytesOf 2 body.length ++ body ++ bytesOf 2 (crc16 body).toNat

/-! ### Enumerated fields (R177, R180) -/

/-- The zone mode codes. -/
def ZoneMode.code : ZoneMode → Byte
  | .off => 0x00
  | .track => 0x01
  | .launch => 0x02
  | .unlisted c => c

/-- A zone mode from its code. -/
def zoneModeOf (b : Byte) : ZoneMode :=
  if b = 0x00 then .off else if b = 0x01 then .track else if b = 0x02 then .launch else .unlisted b

/-- A zone mode that R22 lists. -/
def ZoneMode.listed : ZoneMode → Bool
  | .off => true
  | .track => true
  | .launch => true
  | .unlisted _ => false

/-- The zone mode that a zone mode acts as: its own, and for a code that is not listed a free one (log 13). -/
def ZoneMode.acts : ZoneMode → ZoneMode
  | .off => .off
  | .track => .track
  | .launch => .launch
  | .unlisted c => if Config.unlistedZone c = 0 then .off else if Config.unlistedZone c = 1 then .track else .launch

/-- The level set codes. -/
def LevelSet.code : LevelSet → Byte
  | .four => 0x00
  | .two => 0x01
  | .unlisted c => c

/-- A level set from its code. -/
def levelSetOf (b : Byte) : LevelSet := if b = 0x00 then .four else if b = 0x01 then .two else .unlisted b

/-- A level set that R21 lists. -/
def LevelSet.listed : LevelSet → Bool
  | .four => true
  | .two => true
  | .unlisted _ => false

/-- The level set sends four levels; free for a code that is not listed (log 13). -/
def LevelSet.sendsFour : LevelSet → Bool
  | .four => true
  | .two => false
  | .unlisted c => Config.unlistedFour c

/-- The late policy codes. -/
def LatePolicy.code : LatePolicy → Byte
  | .drop => 0x00
  | .join => 0x01
  | .unlisted c => c

/-- A late policy from its code. -/
def latePolicyOf (b : Byte) : LatePolicy := if b = 0x00 then .drop else if b = 0x01 then .join else .unlisted b

/-- A late policy that R21 lists. -/
def LatePolicy.listed : LatePolicy → Bool
  | .drop => true
  | .join => true
  | .unlisted _ => false

/-- The late policy drops a batch, where JOIN keeps it; free for a code that is not listed (log 13). -/
def LatePolicy.drops : LatePolicy → Bool
  | .drop => true
  | .join => false
  | .unlisted c => Config.unlistedDrops c

/-- The link codes of the preferred link and of SET_LINK_RATE (R177). -/
def linkCode : Link → Byte
  | .a => 0x00
  | .b => 0x01

/-- A link from its code. -/
def linkOf (b : Byte) : Option Link :=
  if b = 0x00 then some .a else if b = 0x01 then some .b else none

/-- The code of a preferred link. -/
def Preferred.code : Preferred → Byte
  | .link l => linkCode l
  | .unlisted c => c

/-- A preferred link from its code. -/
def preferredOf (b : Byte) : Preferred :=
  match linkOf b with
  | some l => .link l
  | none => .unlisted b

/-- A preferred link that R24 lists. -/
def Preferred.listed : Preferred → Bool
  | .link _ => true
  | .unlisted _ => false

/-- The link the arbiter prefers (R69); free for a code that names none (log 13). -/
def Settings.preferredLink (t : Settings) : Link :=
  match t.preferred with
  | .link l => l
  | .unlisted c => if Config.unlistedPrefersB c then .b else .a

/-- The outcome codes, 0x00 to 0x0A (R180). -/
def BatchOutcome.index : BatchOutcome → Nat
  | .launched => 0
  | .trimmed => 1
  | .joined => 2
  | .tracked => 3
  | .muted => 4
  | .notReady => 5
  | .droppedLate => 6
  | .droppedIncomplete => 7
  | .droppedConflict => 8
  | .aborted => 9
  | .storeFault => 10

/-- The shadow outcome byte: 0xFF when absent (R180). -/
def outcomeByte : Option BatchOutcome → Byte
  | none => 0xFF
  | some o => BitVec.ofNat 8 o.index

/-- The record state codes of the BATCHES row (R180). -/
def RecordState.code : RecordState → Byte
  | .assembling => 0x01
  | .ready => 0x02
  | .keying => 0x03
  | .onAir => 0x04
  | .shadow => 0x05

/-- The sequencer state codes of STATUS (R180). -/
def SeqState.code : SeqState → Byte
  | .idle => 0x00
  | .lead => 0x01
  | .symbols => 0x02
  | .hold => 0x03
  | .tail => 0x04

/-- The clock state codes of STATUS (R180). -/
def ClockState.code : ClockState → Byte
  | .unset => 0x00
  | .acquiring _ => 0x01
  | .locked => 0x02
  | .holdover => 0x03

/-- A byte whose bit i is set when the i-th of a list of flags is. -/
def flagByte (fs : List Bool) : Byte :=
  BitVec.ofNat 8 (fs.reverse.foldl (fun v f => 2 * v + (if f then 1 else 0)) 0)

/-- The source links byte: 0x01 for A, 0x02 for B, 0x03 for both (R180). -/
def sourceByte (a b : Bool) : Byte := flagByte [a, b]

/-- The bit of an alarm in the alarm set (R177). -/
def Alarm.bit : Alarm → Byte
  | .clock => 0x01
  | .linkA => 0x02
  | .linkB => 0x04
  | .nv => 0x08
  | .muted => 0x10
  | .tx => 0x20
  | .store => 0x40
  | .overload => 0x80

/-! ### Results (R177) -/

/-- The result codes. -/
inductive Result where
  | done
  | clamped
  | busy
  | inUse
  | range
  | noSuch
  | readOnly
  | nvFail
deriving DecidableEq, Repr

/-- The code of a result. -/
def Result.code : Result → Byte
  | .done => 0
  | .clamped => 1
  | .busy => 2
  | .inUse => 3
  | .range => 4
  | .noSuch => 5
  | .readOnly => 6
  | .nvFail => 7

/-! ### Rows, written (R177) -/

/-- The settings row, 35 bytes. -/
def settingsBytes (s : Settings) : List Byte :=
  bytesOf 2 s.siteAddress.toNat ++ s.groups.toList.flatMap (fun g => bytesOf 2 g.toNat)
    ++ bytesOf 1 s.rateA ++ bytesOf 1 s.rateB ++ [s.preferred.code]
    ++ bytesOf 1 s.rotation ++ bytesOf 1 s.gapLimit ++ bytesOf 1 s.silence
    ++ bytesOf 4 s.setupMargin ++ bytesOf 1 s.maxLead ++ bytesOf 4 s.guard ++ bytesOf 4 s.bridgeLimit
    ++ bytesOf 1 s.acqCount ++ bytesOf 4 s.holdoverRate ++ [s.alarmEnable]

/-- A MODES row, 32 bytes. -/
def modeBytes (m : ModeRow) : List Byte :=
  bytesOf 2 m.rate ++ signedBytes 4 m.offset ++ bytesOf 4 m.keyLead ++ bytesOf 4 m.tail
    ++ bytesOf 2 m.rest.toNat ++ m.levels.toList.flatMap (fun w => bytesOf 2 w.toNat)
    ++ [m.levelSet.code, m.late.code] ++ bytesOf 2 m.joinMin ++ bytesOf 4 m.tolerance

/-- A ZONES row, 4 bytes. -/
def zoneBytes (z : ZoneRow) : List Byte := z.mode.code :: signedBytes 3 z.offset

/-- The SITE row, 4 bytes. -/
def siteBytes (p : Profile) : List Byte := signedBytes 4 p.siteOffset

/-- The 516-byte image of a profile (R35). -/
def profileImage (p : Profile) : List Byte :=
  siteBytes p ++ p.modes.toList.flatMap modeBytes ++ p.zones.toList.flatMap zoneBytes

/-- The 2100 bytes over which the check of the nonvolatile copy is taken (R178). -/
def snapshotBytes (settings : Settings) (profiles : Vector Profile 4) (active : Fin 4) : List Byte :=
  settingsBytes settings ++ profiles.toList.flatMap profileImage ++ [BitVec.ofNat 8 active.val]

/-! ### Rows, read: each field in its stated encoding, before it is judged (R179) -/

/-- A settings row as carried. -/
def settingsOf (bs : List Byte) : Settings where
  siteAddress := BitVec.ofNat 16 (natAt bs 0 2)
  groups := Vector.ofFn (fun i => BitVec.ofNat 16 (natAt bs (2 + 2 * i.val) 2))
  rateA := natAt bs 10 1
  rateB := natAt bs 11 1
  preferred := preferredOf (BitVec.ofNat 8 (natAt bs 12 1))
  rotation := natAt bs 13 1
  gapLimit := natAt bs 14 1
  silence := natAt bs 15 1
  setupMargin := natAt bs 16 4
  maxLead := natAt bs 20 1
  guard := natAt bs 21 4
  bridgeLimit := natAt bs 25 4
  acqCount := natAt bs 29 1
  holdoverRate := natAt bs 30 4
  alarmEnable := BitVec.ofNat 8 (natAt bs 34 1)

/-- A MODES row as carried. -/
def modeOf (bs : List Byte) : ModeRow where
  rate := natAt bs 0 2
  offset := intAt bs 2 4
  keyLead := natAt bs 6 4
  tail := natAt bs 10 4
  rest := BitVec.ofNat 16 (natAt bs 14 2)
  levels := Vector.ofFn (fun i => BitVec.ofNat 16 (natAt bs (16 + 2 * i.val) 2))
  levelSet := levelSetOf (BitVec.ofNat 8 (natAt bs 24 1))
  late := latePolicyOf (BitVec.ofNat 8 (natAt bs 25 1))
  joinMin := natAt bs 26 2
  tolerance := natAt bs 28 4

/-- A ZONES row as carried. -/
def zoneOf (bs : List Byte) : ZoneRow where
  mode := zoneModeOf (BitVec.ofNat 8 (natAt bs 0 1))
  offset := intAt bs 1 3

/-- A settings record that R30 does not refuse: both rate codes in 1 … 7 and a listed preferred link. -/
def Settings.accepted (t : Settings) : Bool :=
  decide (1 ≤ t.rateA ∧ t.rateA ≤ 7) && decide (1 ≤ t.rateB ∧ t.rateB ≤ 7) && t.preferred.listed

/-- A mode row that R30 does not refuse: a symbol rate of 0 or in 100 … 9600, a listed level set and late policy. -/
def ModeRow.accepted (m : ModeRow) : Bool :=
  decide (m.rate = 0 ∨ (100 ≤ m.rate ∧ m.rate ≤ 9600)) && m.levelSet.listed && m.late.listed

/-- A settings row of a WRITE; none when it is refused (R30). -/
def readSettings (bs : List Byte) : Option Settings :=
  if (settingsOf bs).accepted then some (settingsOf bs) else none

/-- A MODES row of a WRITE; none when it is refused (R30). -/
def readMode (bs : List Byte) : Option ModeRow := if (modeOf bs).accepted then some (modeOf bs) else none

/-- A ZONES row of a WRITE; none when its zone mode is refused (R30). -/
def readZone (bs : List Byte) : Option ZoneRow := if (zoneOf bs).mode.listed then some (zoneOf bs) else none

/-- `count` rows of `size` bytes each, in order. -/
def rowsOf (size : Nat) : Nat → List Byte → List (List Byte)
  | 0, _ => []
  | count + 1, bs => bs.take size :: rowsOf size count (bs.drop size)

/-- A profile read from its 516-byte image. -/
def profileOf (bs : List Byte) : Profile where
  siteOffset := intAt bs 0 4
  modes := Vector.ofFn (fun i => modeOf (fieldAt bs (4 + 32 * i.val) 32))
  zones := Vector.ofFn (fun i => zoneOf (fieldAt bs (260 + 4 * i.val) 4))

/-! ### Clamping (R31) -/

/-- A number held within a range, and whether it had to be. -/
def clampNat (lo hi v : Nat) : Nat := max lo (min hi v)

/-- A signed number held within a range. -/
def clampInt (lo hi v : Int) : Int := max lo (min hi v)

/-- A profile offset held within ±1 000 000 (R20 to R22). -/
def clampOffset (v : Int) : Int := clampInt (-1000000) 1000000 v

/-- A MODES row with every numeric field in its range (R21, R31). -/
def clampMode (m : ModeRow) : ModeRow :=
  { m with
    offset := clampOffset m.offset
    keyLead := clampNat 0 2000000 m.keyLead
    tail := clampNat 0 1000000 m.tail
    joinMin := clampNat 1 4096 m.joinMin
    tolerance := clampNat 0 100000 m.tolerance }

/-- A ZONES row with its offset in its range (R22, R31). -/
def clampZone (z : ZoneRow) : ZoneRow := { z with offset := clampOffset z.offset }

/-- An address held within 0x0001 … 0xFFFE (R31). -/
def clampAddress (a : Word16) : Word16 := if a = 0 then 1 else if a = 0xFFFF then 0xFFFE else a

/-- A group address: 0x0000 stays none (R31). -/
def clampGroup (a : Word16) : Word16 := if a = 0xFFFF then 0xFFFE else a

/-- The settings record with every field in its own range, the guard not yet compared with the setup margin
(R24, R31). -/
def clampSettings (s : Settings) : Settings :=
  { s with
    siteAddress := clampAddress s.siteAddress
    groups := s.groups.map clampGroup
    rotation := clampNat 1 8 s.rotation
    gapLimit := clampNat 1 255 s.gapLimit
    silence := clampNat 1 255 s.silence
    setupMargin := clampNat 1000 1000000 s.setupMargin
    maxLead := clampNat 1 120 s.maxLead
    guard := clampNat 0 100000 s.guard
    bridgeLimit := clampNat 0 10000000 s.bridgeLimit
    acqCount := clampNat 2 10 s.acqCount
    holdoverRate := clampNat 1 100000 s.holdoverRate }

/-- The guard held to the setup margin (R25). -/
def holdGuard (s : Settings) : Settings := { s with guard := min s.guard s.setupMargin }

/-- A settings row as it is written: each field clamped to its own range, then the guard to the setup margin
(R25, R31). -/
def keptSettings (s : Settings) : Settings := holdGuard (clampSettings s)

/-! ### The settings record, its profiles and its active number out of a nonvolatile copy (R37 to R40) -/

/-- The copy read back, each field as it stands in it; none when its CRC-16 disagrees or its active profile number is not
in 0 … 3 (R39, R40; log 13). -/
def readCopy (nv : NvCopy) : Option (Settings × Vector Profile 4 × Fin 4) :=
  let active := natAt nv.bytes 2099 1
  if h : crc16 nv.bytes = nv.check ∧ active < 4 then
    some (settingsOf (fieldAt nv.bytes 0 35), Vector.ofFn (fun i => profileOf (fieldAt nv.bytes (35 + 516 * i.val) 516)),
      ⟨active, h.2⟩)
  else none

end Sys2Proof.Machine
end

