-- ==== Sys2Proof/Machine/Operands.lean ====
section
/-! DEFINITION. The operand forms of the commands: the header of a batch part with its structure check (R82), and the
parameters of the requests (R157, R177). -/

namespace Sys2Proof.Machine

/-- A batch part as carried (R177): its header fields, unjudged, and the symbol bytes. -/
structure RawPart where
  number : Word16
  index : Nat
  count : Nat
  zone : Nat
  mode : Nat
  cls : Nat
  tagSec : Word32
  tagTick : Nat
  total : Nat
  symbols : List Byte
deriving DecidableEq, Repr

/-- The fields of a batch body, at the offsets of the batch body's layout (R177). -/
def rawPart (body : List Byte) : RawPart where
  number := BitVec.ofNat 16 (natAt body 1 2)
  index := natAt body 3 1
  count := natAt body 4 1
  zone := natAt body 5 1
  mode := natAt body 6 1
  cls := natAt body 7 1
  tagSec := BitVec.ofNat 32 (natAt body 8 4)
  tagTick := natAt body 12 4
  total := natAt body 16 2
  symbols := body.drop 18

/-- The symbol count p of a part: 1024, or the last part's share (R82). -/
def RawPart.share (p : RawPart) : Nat :=
  if p.index + 1 < p.count then Config.partSymbols else p.total - Config.partSymbols * (p.count - 1)

/-- The structure check of R82: the header and the body are consistent with one another. -/
def structureOk (body : List Byte) : Bool :=
  let p := rawPart body
  decide (18 ≤ body.length)
    && decide (1 ≤ p.count ∧ p.count ≤ Config.maxParts)
    && decide (p.index < p.count)
    && decide (1 ≤ p.total ∧ p.total ≤ Config.maxParts * Config.partSymbols)
    && decide (p.zone ≤ 63 ∧ p.mode ≤ 7 ∧ p.cls ≤ 3)
    && decide (Config.partSymbols * (p.count - 1) + 1 ≤ p.total ∧ p.total ≤ Config.partSymbols * p.count)
    && decide (body.length = 18 + (p.share + 3) / 4)

/-- The symbol at a position of a packed run: four to a byte, the first in the two most significant bits (R97, R177). -/
def symbolAt (bytes : List Byte) (pos : Nat) : Nat :=
  (bytes.getD (pos / 4) 0).toNat / 4 ^ (3 - pos % 4) % 4

/-- The last byte of a part of p symbols, its unused positions written as symbol 0 (R82, R97). -/
def keepSymbols (p : Nat) (b : Byte) : Byte :=
  if p % 4 = 0 then b else b &&& (0xFF <<< (8 - 2 * (p % 4)))

/-- The bytes of a part of p symbols as they are stored, before they are cut into blocks. -/
def storedBytes (p : Nat) (bytes : List Byte) : List Byte :=
  match bytes.getLast? with
  | none => []
  | some b => bytes.dropLast ++ [keepSymbols p b]

/-- A run of bytes filled with 0 to the 64 of a block. -/
def padBlock (bytes : List Byte) : List Byte :=
  (bytes ++ List.replicate Config.blockBytes 0).take Config.blockBytes

/-! ### Requests -/

/-- The thirteen requests (R155). -/
inductive Request where
  | status
  | read
  | write
  | digest
  | switch
  | cancelSwitch
  | store
  | recall
  | abort
  | ackAlarms
  | clearCounters
  | setLinkRate
  | restart
deriving DecidableEq, Repr

/-- The request code of each (R177). -/
def Request.code : Request → Byte
  | .status => 0x01
  | .read => 0x02
  | .write => 0x03
  | .digest => 0x04
  | .switch => 0x05
  | .cancelSwitch => 0x06
  | .store => 0x07
  | .recall => 0x08
  | .abort => 0x09
  | .ackAlarms => 0x0A
  | .clearCounters => 0x0B
  | .setLinkRate => 0x0C
  | .restart => 0x0D

/-- The requests in code order. -/
def requests : List Request :=
  [.status, .read, .write, .digest, .switch, .cancelSwitch, .store, .recall, .abort, .ackAlarms, .clearCounters,
    .setLinkRate, .restart]

/-- The request a code names; none when it is not understood (R155). -/
def requestOf (code : Byte) : Option Request := requests.find? (fun q => q.code == code)

/-- The parameter bytes a code requires; none for WRITE, which R161 judges (R157, R177). -/
def Request.paramBytes : Request → Option Nat
  | .status => some 0
  | .read => some 3
  | .write => none
  | .digest => some 1
  | .switch => some 5
  | .cancelSwitch => some 0
  | .store => some 0
  | .recall => some 0
  | .abort => some 3
  | .ackAlarms => some 1
  | .clearCounters => some 0
  | .setLinkRate => some 2
  | .restart => some 0

/-- The parameters are of the length the code requires. -/
def Request.lengthOk (q : Request) (params : List Byte) : Bool :=
  match q.paramBytes with
  | some n => decide (params.length = n)
  | none => true

/-- The tables of READ and WRITE (R159, R177). -/
inductive TableId where
  | settings
  | site (p : Fin 4)
  | modes (p : Fin 4)
  | zones (p : Fin 4)
  | history
  | counters
  | batches
deriving DecidableEq, Repr

/-- The table an identifier names; none for one that names no table or a profile outside 0 … 3 (R177). -/
def tableOf (b : Byte) : Option TableId :=
  let v := b.toNat
  if v = 0x00 then some .settings
  else if v / 16 = 1 ∧ v % 16 < 4 then some (.site (Fin.ofNat 4 v))
  else if v / 16 = 2 ∧ v % 16 < 4 then some (.modes (Fin.ofNat 4 v))
  else if v / 16 = 3 ∧ v % 16 < 4 then some (.zones (Fin.ofNat 4 v))
  else if v = 0x40 then some .history
  else if v = 0x41 then some .counters
  else if v = 0x42 then some .batches
  else none

/-- The row size of a table in bytes (R177). -/
def TableId.rowSize : TableId → Nat
  | .settings => 35
  | .site _ => 4
  | .modes _ => 32
  | .zones _ => 4
  | .history => 20
  | .counters => 4
  | .batches => 24

/-- The rows one frame carries (R159). -/
def TableId.frameRows : TableId → Nat
  | .settings => 1
  | .site _ => 1
  | .modes _ => 8
  | .zones _ => 64
  | .history => 12
  | .counters => 50
  | .batches => 10

/-- A table whose number of rows moves (R159). -/
def TableId.moving : TableId → Bool
  | .history => true
  | .batches => true
  | .settings => false
  | .site _ => false
  | .modes _ => false
  | .zones _ => false
  | .counters => false

end Sys2Proof.Machine
end

