-- ==== Sys2Proof/Machine/State.lean ====
section
/-! DEFINITION. The state of the aligner, whole, as plain data; the ways a step can stop; and the machine right after
reset. -/

namespace Sys2Proof.Machine

/-- Why a step faults: never. Every row of the table is given an effect by the manual, and an event whose cause does not
hold changes nothing (log 3), so no command raises a fault. Safe. -/
inductive Fault where
deriving DecidableEq, Repr

/-- Why a step is refused. -/
inductive Refusal where
  /-- A command with no meaning yet, named by its mnemonic; raised by no arm of `exec`. Safe. -/
  | notModelled (mnemonic : String)
deriving DecidableEq, Repr

/-- The aligner. Each part is owned by the block that the manual's block overview names. -/
structure State where
  /-- The site time unit. -/
  time : TimeUnit
  /-- The profile store. -/
  store : ProfileStore
  /-- Carriage link A. -/
  linkA : CarriageLink
  /-- Carriage link B. -/
  linkB : CarriageLink
  /-- The admission arbiter and engine. -/
  arbiter : Arbiter
  /-- The symbol store. -/
  symbols : SymbolStore
  /-- The batch table: none is a FREE slot. The launch queue is read from it, not stored (R108). -/
  table : Vector (Option Record) Config.slots
  /-- The keying sequencer and the transmitter port. -/
  keying : Sequencer
  /-- The symbol pacer. -/
  pacer : Pacer
  /-- The management engine. -/
  engine : Engine
  /-- A RESTART was carried out and its warm restart is the next event (R167). -/
  restartCalled : Bool
  /-- The launch history, oldest first (R168). -/
  history : List HistoryEntry
  /-- The fifty counters, in the row order of the COUNTERS table (R171, R180). -/
  counters : Vector Word32 Config.counters
  /-- The alarm latches, in the layout of the alarm set (R174, R177). -/
  latches : Byte
  /-- The MODEL's own: how many free values have been read (log 6). -/
  free : Nat
  /-- The MODEL's own: the commands that are waiting, first in, first out. -/
  pending : List Instr
deriving DecidableEq, Repr

/-- Right after reset: the state a cold start leaves when the nonvolatile copy is blank, so that its check fails and the
factory load is made (R18, R23, R40, R76, R105, R122, R152, R154, R168, R172, R176; log 7 to log 11). -/
def State.reset : State where
  time := coldTime
  store :=
    { profiles := Vector.replicate 4 factoryProfile
      settings := defaultSettings
      active := 0
      pending := none
      nv := { bytes := [], check := 0 }
      nvFault := true }
  linkA := coldLink 5
  linkB := coldLink 5
  arbiter := { occupied := false, runCount := 0, runLink := .a }
  symbols := { memory := [], checks := Vector.replicate Config.blocks 0, free := fullFreeList }
  table := Vector.replicate Config.slots none
  keying := idleSequencer false
  pacer := idlePacer
  engine := .free
  restartCalled := false
  history := []
  counters := Vector.replicate Config.counters 0
  latches := 0x0F
  free := 0
  pending := []

end Sys2Proof.Machine
end

