-- ==== Sys2Proof/Machine/Flags.lean ====
section
/-! DEFINITION. The flags the part reports: the counters with their saturation (R171), the alarm conditions, latches and
output (R173 to R175). -/

namespace Sys2Proof.Machine

/-! ### Counters (R171, R180) -/

/-- The place of a disposition among a link's counters. -/
def Disposition.index : Disposition → Nat
  | .good => 0
  | .badCheck => 1
  | .empty => 2
  | .oversize => 3
  | .badChar => 4
  | .gap => 5
  | .overrun => 6

/-- The place of a counter among its link's ten. -/
def LinkCounter.index : LinkCounter → Nat
  | .attempt d => d.index
  | .partsTaken => 7
  | .replyLost => 8
  | .repliesSent => 9

/-- The place of a counter among admission's fourteen. -/
def AdmissionCounter.index : AdmissionCounter → Nat
  | .noTime => 0
  | .badPart => 1
  | .badTag => 2
  | .lateCopy => 3
  | .mismatch => 4
  | .duplicate => 5
  | .zoneOff => 6
  | .noMode => 7
  | .tooEarly => 8
  | .tableFull => 9
  | .storeFull => 10
  | .foreign => 11
  | .unknownKind => 12
  | .takenToShadow => 13

/-- The place of a counter among the management engine's four. -/
def MgmtCounter.index : MgmtCounter → Nat
  | .requestsTaken => 0
  | .busyAnswers => 1
  | .busyDiscards => 2
  | .stallEnds => 3

/-- The row of a counter in the COUNTERS table (R180). -/
def Counter.row : Counter → Fin Config.counters
  | .link .a c => Fin.ofNat _ c.index
  | .link .b c => Fin.ofNat _ (10 + c.index)
  | .admission c => Fin.ofNat _ (20 + c.index)
  | .outcome o => Fin.ofNat _ (34 + o.index)
  | .mgmt c => Fin.ofNat _ (45 + c.index)
  | .todFailures => Fin.ofNat _ 49

/-- A counter after one more occurrence: it saturates at 4 294 967 295 (R171). -/
def countUp (c : Word32) : Word32 := if c = 0xFFFFFFFF then c else c + 1

/-- What a counter reads. -/
def State.counter (s : State) (c : Counter) : Word32 := s.counters.get c.row

/-- One occurrence of a counter's cause (R171). -/
def State.bump (s : State) (c : Counter) : State :=
  { s with counters := s.counters.set c.row.val (countUp (s.counters.get c.row)) c.row.isLt }

/-! ### Alarms (R173 to R175) -/

/-- A rise of an alarm's condition sets its latch (R174). -/
def State.latch (s : State) (a : Alarm) : State := { s with latches := s.latches ||| a.bit }

/-- The level conditions as they stand, in the layout of the alarm set; the event alarms' bits are 0 (R173, R180). -/
def State.conditions (s : State) : Byte :=
  flagByte [decide (s.time.state ≠ .locked), !s.linkA.up, !s.linkB.up, s.store.nvFault]

/-- The alarm output: asserted exactly while a latch is set whose alarm is enabled (R175). -/
def State.alarmOut (s : State) : Bool := decide (s.latches &&& s.store.settings.alarmEnable ≠ 0)

/-- A new clock state; leaving LOCKED is a rise of the CLOCK condition (R17, R173). -/
def State.setClockState (s : State) (c : ClockState) : State :=
  let s1 := { s with time := { s.time with state := c } }
  if s.time.state = .locked ∧ c ≠ .locked then s1.latch .clock else s1

/-- A new NV condition; a rise sets its latch (R38, R173). -/
def State.setNvFault (s : State) (f : Bool) : State :=
  let s1 := { s with store := { s.store with nvFault := f } }
  if f = true ∧ s.store.nvFault = false then s1.latch .nv else s1

/-- The alarm of a link's DOWN condition. -/
def linkAlarm : Link → Alarm
  | .a => .linkA
  | .b => .linkB

end Sys2Proof.Machine
end

