-- ==== Sys2Proof/Machine/Ops.lean ====
section
/-! DEFINITION. The named operations over the state: the links, the batch table and its launch queue, the reply queues,
the transmitter port, and the one tick of the site clock. -/

namespace Sys2Proof.Machine

/-! ### Links -/

/-- One carriage link of the state. -/
def State.link (s : State) : Link → CarriageLink
  | .a => s.linkA
  | .b => s.linkB

/-- One carriage link replaced. -/
def State.setLink (s : State) (l : Link) (c : CarriageLink) : State :=
  match l with
  | .a => { s with linkA := c }
  | .b => { s with linkB := c }

/-- The other link. -/
def otherLink : Link → Link
  | .a => .b
  | .b => .a

/-- A link's rate code in the settings record (R24). -/
def Settings.rate (t : Settings) : Link → Nat
  | .a => t.rateA
  | .b => t.rateB

/-- The settings record with a link's rate code replaced. -/
def Settings.setRate (t : Settings) (l : Link) (code : Nat) : Settings :=
  match l with
  | .a => { t with rateA := code }
  | .b => { t with rateB := code }

/-- A frame attempt of a link ends with a disposition: it is counted, the deframer hunts and the gap timer stops
(R65, R75). -/
def State.endAttempt (s : State) (l : Link) (d : Disposition) : State :=
  (s.setLink l { s.link l with deframer := .hunt, gapTimer := none }).bump (.link l (.attempt d))

/-- The reply transmitter begins the head frame when it is idle, a frame is queued and the link is UP (R70). -/
def CarriageLink.beginReply (c : CarriageLink) : CarriageLink :=
  if c.up ∧ c.replies ≠ [] ∧ c.sending = none then { c with sending := some c.lineRate } else c

/-- A reply frame is placed in the reply queue of its link, or dropped and counted when four are held (R70, R71). -/
def State.placeReply (s : State) (l : Link) (body : List Byte) : State :=
  let c := s.link l
  if c.replies.length < Config.replyPlaces then
    s.setLink l ({ c with replies := c.replies ++ [frameOf body] }).beginReply
  else s.bump (.link l .replyLost)

/-- The line of a link changes rate: a frame attempt in progress ends as BAD_CHAR, and a reply frame being sent is
finished at the old rate (R74). DESIGN CHOICE (log 43): so too when the code is the one the line already runs at, a later
change having replaced a pending one. -/
def State.applyRate (s : State) (l : Link) (code : Nat) : State :=
  let c := s.link l
  let s1 := s.setLink l { c with lineRate := code, rateChange := none }
  if c.deframer = .hunt then s1 else s1.endAttempt l .badChar

/-- A rate change made by a request: pending behind the replies now queued when the request was unicast on the link
itself, at once otherwise; a later change replaces a pending one (R73). It is made after the request's reply has been
placed or dropped. -/
def State.changeRate (s : State) (h : Handed) (l : Link) (code : Nat) : State :=
  let c := s.link l
  if h.addressing = .unicast ∧ h.link = l ∧ c.replies ≠ [] then
    s.setLink l { c with rateChange := some { code := code, after := c.replies.length } }
  else s.applyRate l code

/-- A link goes DOWN when its silence timer has run for the link silence time as the setting stands (R67). -/
def State.silenceCheck (s : State) (l : Link) : State :=
  let c := s.link l
  if c.up ∧ s.store.settings.silence * Config.periodsPerSecond ≤ c.silence then
    (s.setLink l { c with up := false, silence := 0 }).latch (linkAlarm l)
  else s

/-! ### The batch table -/

/-- The record in a slot; none for a FREE slot. -/
def State.record (s : State) (i : Slot) : Option Record := s.table.get i

/-- A record put in its slot. -/
def State.setRecord (s : State) (i : Slot) (r : Record) : State :=
  { s with table := s.table.set i.val (some r) i.isLt }

/-- A slot becomes FREE. -/
def State.freeSlot (s : State) (i : Slot) : State :=
  { s with table := s.table.set i.val none i.isLt }

/-- The slots, in slot order. -/
def allSlots : List Slot := List.finRange Config.slots

/-- The non-FREE records in slot order (R123). -/
def State.records (s : State) : List Record := s.table.toList.filterMap id

/-- The lowest-numbered FREE slot (R88). -/
def State.lowestFree (s : State) : Option Slot := allSlots.find? (fun i => (s.record i).isNone)

/-- The slot whose record holds a batch number (R85). -/
def State.slotOf (s : State) (n : Word16) : Option Slot :=
  allSlots.find? (fun i => match s.record i with
    | some r => r.number == n
    | none => false)

/-- The dependent count (R28). -/
def State.dependentCount (s : State) : Nat := (s.records.filter (·.dependent)).length

/-- The dependent mark of every record is cleared (R28). -/
def State.clearDependents (s : State) : State :=
  { s with table := s.table.map (fun o => o.map (fun r => { r with dependent := false })) }

/-! ### The launch queue and the order of equal instants (R108, R93) -/

/-- A record taken into an order: its instant, its batch number and its slot. -/
structure Item where
  time : Instant
  number : Word16
  slot : Slot
deriving DecidableEq, Repr

/-- The items no other is earlier than; all of them when each has an earlier one (log 31). -/
def earliestItems (xs : List Item) : List Item :=
  let e := xs.filter (fun x => xs.all (fun y => !(y.time.earlier x.time)))
  if e.isEmpty then xs else e

/-- The item taken first: the earliest, and among equal instants by batch number (R93, R108). -/
def firstItem (xs : List Item) : Option Item :=
  let e := earliestItems xs
  match firstNumber (e.map (·.number)) with
  | none => none
  | some n => e.find? (fun x => x.number == n)

/-- The items in order, `fuel` of them at most. -/
def orderItems : Nat → List Item → List Item
  | 0, _ => []
  | fuel + 1, xs =>
    match firstItem xs with
    | none => []
    | some x => x :: orderItems fuel (xs.filter (fun y => y.slot != x.slot))

/-- The launch queue: the ASSEMBLING and READY records by kept key-up (R108). -/
def State.launchQueue (s : State) : List Slot :=
  let items := allSlots.filterMap (fun i => match s.record i with
    | some r => if r.state = .assembling ∨ r.state = .ready then some ⟨r.keptKeyUp, r.number, i⟩ else none
    | none => none)
  (orderItems Config.slots items).map (·.slot)

/-- The record in a slot is READY. -/
def State.isReady (s : State) (i : Slot) : Bool :=
  match s.record i with
  | some r => decide (r.state = .ready)
  | none => false

/-- The head READY record: the first READY record in queue order (R108). -/
def State.headReady (s : State) : Option Slot := s.launchQueue.find? s.isReady

/-! ### The events that follow (log 42) -/

/-- Events the manual puts in the event that follows the one taken now: they go to the front of the queue, the first of
them to be taken next (R109, R114, R130, R139, R141, R167; log 42). -/
def State.follow (s : State) (cs : List Instr) : State := { s with pending := cs ++ s.pending }

/-! ### The transmitter port (R138) -/

/-- KEY: asserted exactly while the sequencer is not IDLE (R137). -/
def State.key (s : State) : Bool := decide (s.keying.state ≠ .idle)

/-- A word is put out on MOD and strobed (R138). -/
def State.put (s : State) (w : Word16) : State :=
  { s with keying := { s.keying with mod := w, modstb := true } }

/-- The level a symbol value puts out: under TWO the values are clamped to the binary pair (R143). -/
def levelWord (row : ModeRow) (v : Nat) : Word16 :=
  if row.levelSet.sendsFour then row.levels.get (Fin.ofNat 4 v)
  else if v < 2 then row.levels.get 0 else row.levels.get 3

/-! ### One tick of the site clock -/

/-- The site clock advances by one tick: the PPS monitor and the spacing count it, the pacer adds inc in SYMBOLS, and the
strobe of the tick before ends (R2, R4, R5, R138, R142). -/
def State.clockTick (s : State) : State :=
  let inc := match s.keying.current with
    | some i => match s.record i with
      | some r => r.inc
      | none => 0
    | none => 0
  { s with
    time := { s.time with
      clock := s.time.clock.add 1
      pps := s.time.pps.map (· + 1)
      spacing := s.time.spacing.map (· + 1) }
    pacer := if s.keying.state = .symbols then { s.pacer with acc := s.pacer.acc + inc } else s.pacer
    keying := { s.keying with modstb := false } }

end Sys2Proof.Machine
end

