-- ==== Sys2Proof/Machine/SymbolStore.lean ====
section
/-! DEFINITION. The symbol store (06_symbol_store): allocation, release and the read of a block with its check. -/

namespace Sys2Proof.Machine

/-- The address of a block's first byte. -/
def blockAddress (b : Block) : Nat := Config.blockBytes * b.val

/-- The 64 bytes of a block as they stand. -/
def SymbolStore.blockBytes (t : SymbolStore) (b : Block) : List Byte :=
  Memory.readRun t.memory (blockAddress b) Config.blockBytes

/-- A block written whole, with its check code (R97). -/
def SymbolStore.writeBlock (t : SymbolStore) (b : Block) (bytes : List Byte) : SymbolStore :=
  let full := padBlock bytes
  { t with
    memory := Memory.writeRun t.memory (blockAddress b) full
    checks := t.checks.set b.val (crc16 full) b.isLt }

/-- The bytes of a part written into the blocks of its chain, 64 to a block (R97). -/
def SymbolStore.writeChain : SymbolStore → List Block → List Byte → SymbolStore
  | t, [], _ => t
  | t, b :: bs, bytes =>
    SymbolStore.writeChain (t.writeBlock b (bytes.take Config.blockBytes)) bs (bytes.drop Config.blockBytes)

/-- The blocks a part of p symbols needs (R91, R99). -/
def blocksFor (p : Nat) : Nat := (p + 255) / Config.blockSymbols

/-- The allocation of a part: the chain taken from the head of the free list and the part written into it; none, the
store unchanged, when the free list is short (R99). -/
def SymbolStore.allocate (t : SymbolStore) (p : Nat) (bytes : List Byte) : Option (List Block × SymbolStore) :=
  let need := blocksFor p
  if t.free.length < need then none
  else
    let chain := t.free.take need
    some (chain, { t with free := t.free.drop need }.writeChain chain (storedBytes p bytes))

/-- The block numbers of a record in ascending part index, each chain in its own order (R101). -/
def Record.blocks (r : Record) : List Block := r.chains.toList.flatten

/-- The record with every chain absent (R101). -/
def Record.unchained (r : Record) : Record := { r with chains := Vector.replicate 16 [] }

/-- A record's block numbers appended to the tail of the free list (R101). -/
def State.releaseBlocks (s : State) (r : Record) : State :=
  { s with symbols := { s.symbols with free := s.symbols.free ++ r.blocks } }

/-- The block that holds batch symbols 256b to 256b + 255: entry b mod 4 of the chain of part b / 4 (R100). -/
def Record.blockOf (r : Record) (b : Nat) : Option Block :=
  if h : b / 4 < 16 then (r.chains.get ⟨b / 4, h⟩)[b % 4]? else none

/-- A block read for the pacer: its bytes, or none when its check code disagrees, a read fault (R103, R104). -/
def State.readBlock (s : State) (r : Record) (b : Nat) : Option BlockImage :=
  match r.blockOf b with
  | none => none
  | some n =>
    let bytes := s.symbols.blockBytes n
    if crc16 bytes = s.symbols.checks.get n then some { index := b, bytes := bytes } else none

/-- The value of batch symbol m as the pacer holds it (R100, R142): out of the block being sent from, else out of the
next block once read, else out of the store (log 35). -/
def State.symbolValue (s : State) (r : Record) (m : Nat) : Nat :=
  let pos := m % Config.blockSymbols
  let b := m / Config.blockSymbols
  let held := match s.pacer.block with
    | some i => if i.index = b then some i.bytes else none
    | none => none
  let next := match s.pacer.next with
    | some i => if i.index = b then some i.bytes else none
    | none => none
  match held, next, r.blockOf b with
  | some bytes, _, _ => symbolAt bytes pos
  | none, some bytes, _ => symbolAt bytes pos
  | none, none, some n => symbolAt (s.symbols.blockBytes n) pos
  | none, none, none => 0

end Sys2Proof.Machine
end

