-- ==== Sys2Proof/Machine/Table.lean ====
section
/-! DEFINITION. The batch table (07): becoming SHADOW, retirement into the launch history, the join rule, and what
comes due for one record. -/

namespace Sys2Proof.Machine

/-! ### Shared operations -/

/-- A record becomes SHADOW with an outcome: it leaves the launch queue, its blocks are released, and its parts-present
set, links, j, k, join mark and symbols sent are kept; a record already SHADOW keeps its outcome (R107, R114). -/
def State.becomeShadow (s : State) (i : Slot) (o : BatchOutcome) : State :=
  match s.record i with
  | none => s
  | some r =>
    if r.state = .shadow then s
    else (s.releaseBlocks r).setRecord i { r.unchained with state := .shadow, shadow := some o }

/-- The history entry of a record at its retirement (R169). -/
def Record.entry (r : Record) (o : BatchOutcome) : HistoryEntry where
  number := r.number
  zone := r.zone
  mode := r.mode
  cls := r.cls
  outcome := o
  sourceA := r.sourceA
  sourceB := r.sourceB
  launch := r.launch
  j := min r.j r.total
  sent := r.sent

/-- An entry appended to the launch history, the oldest removed when 64 are held (R168). -/
def appendHistory (h : List HistoryEntry) (e : HistoryEntry) : List HistoryEntry :=
  if h.length < Config.historySize then h ++ [e] else h.drop 1 ++ [e]

/-- Retirement, one event: the entry is appended, the outcome counted, the blocks released where the record holds any,
and the slot becomes FREE (R117). The dependent count falls with a marked record (R28). -/
def State.retire (s : State) (i : Slot) (r : Record) (o : BatchOutcome) : State :=
  let s1 := (s.releaseBlocks r).freeSlot i
  { s1 with history := appendHistory s1.history (r.entry o) }.bump (.outcome o)

/-- The outcome with which an ON_AIR record retires at its kept end (R116). -/
def Record.airOutcome (r : Record) : BatchOutcome :=
  if r.j = 0 ∧ r.k = r.total then .launched else if r.joined then .joined else .trimmed

/-- A SHADOW record retires with its shadow outcome (R115). -/
def State.retireShadow (s : State) (i : Slot) : State :=
  match s.record i with
  | none => s
  | some r =>
    match r.state, r.shadow with
    | .shadow, some o => s.retire i r o
    | _, _ => s

/-- The join rule for a late record that is complete: started at the first boundary it can still reach with a full setup
margin and key lead, or dropped (R111). -/
def State.joinRule (s : State) (i : Slot) (r : Record) : State :=
  let margin := s.store.settings.setupMargin
  let start := s.time.clock.add ((margin : Int) + (r.row.keyLead : Int))
  let j' := max (firstBoundary r.inc (start.diff r.launch)) r.j
  if (r.k : Int) - (j' : Int) < (r.row.joinMin : Int) ∨ r.k ≤ j' then
    s.becomeShadow i .droppedLate
  else
    s.setRecord i
      ({ r with j := j', state := .ready, joined := r.joined || decide (r.j < j') }.reformed margin)

/-- The parts-present set holds every index from 0 to the part count − 1 (R92). -/
def Record.complete (r : Record) : Bool := (List.range r.partCount).all (fun i => r.parts.getLsbD i)

/-- The completion of an ASSEMBLING record in the event that stored a part: READY, or through the join rule when it is
late (R92). -/
def State.completeRecord (s : State) (i : Slot) : State :=
  match s.record i with
  | none => s
  | some r =>
    if r.state = .assembling ∧ r.complete = true then
      if r.late then s.joinRule i r else s.setRecord i { r with state := .ready }
    else s

/-! ### What is due -/

/-- The deadline of the record in a slot acts (R109). DESIGN CHOICE (log 44): an instant is due by the clock as it stands,
here and for every other instant, so one that was reached and not yet acted on when an edge steps the clock back below it is
due again when the clock reaches it, where R10 does not say whether it had come due. -/
def State.deadlineDue (s : State) (i : Slot) : Bool :=
  match s.record i with
  | some r => decide (r.state = .assembling) && !r.late && r.deadline.reached s.time.clock
  | none => false

/-- The kept end of the late record in a slot acts (R112). -/
def State.keptEndDue (s : State) (i : Slot) : Bool :=
  match s.record i with
  | some r => decide (r.state = .assembling) && r.late && r.keptEnd.reached s.time.clock
  | none => false

/-- The kept launch of the READY record in a slot has passed (R113). -/
def State.launchMissed (s : State) (i : Slot) : Bool :=
  match s.record i with
  | some r => decide (r.state = .ready) && r.keptLaunch.passed s.time.clock
  | none => false

/-- The retirement instant of the SHADOW record in a slot has been reached, with the guard as it stands (R115). -/
def State.retirementDue (s : State) (i : Slot) : Bool :=
  match s.record i with
  | some r => decide (r.state = .shadow) && (r.widenedEnd s.store.settings.guard).reached s.time.clock
  | none => false

/-! ### The retirement that follows (R114; log 42) -/

/-- The record in a slot is SHADOW. -/
def State.isShadow (s : State) (i : Slot) : Bool :=
  match s.record i with
  | some r => decide (r.state = .shadow)
  | none => false

/-- An event made the record in a slot SHADOW after its retirement instant: it retires in the event that follows (R114). -/
def State.retiresNext (before s : State) (i : Slot) : Bool := s.retirementDue i && !before.isShadow i

/-- The retirements that an event leaves for the event that follows, `before` being the state before the event, in slot
order (R114; log 42). -/
def State.retireNext (before s : State) : State :=
  s.follow ((allSlots.filter (State.retiresNext before s)).map Instr.retirement)

/-! ### The effects -/

/-- The deadline of an ASSEMBLING record whose late mark is clear: DROPPED_INCOMPLETE under DROP, the late mark under
JOIN (R109). -/
def State.deadlineActs (s : State) (i : Slot) : State :=
  match s.record i with
  | none => s
  | some r =>
    if r.row.late.drops then s.becomeShadow i .droppedIncomplete else s.setRecord i { r with late := true }

/-- The pending switch is due: one exists, the clock may be trusted that far, and second S, tick 0 is not later than the
site clock (R34). -/
def State.switchDue (s : State) : Bool :=
  match s.store.pending with
  | none => false
  | some p =>
    decide (s.time.state ≠ .unset) && decide (s.time.state ≠ .acquiring false)
      && (Instant.mk p.second 0).reached s.time.clock

/-- The switch event (R34, R28). -/
def State.takeSwitch (s : State) : State :=
  match s.store.pending with
  | none => s
  | some p => { s with store := { s.store with active := p.target, pending := none } }.clearDependents

/-! ### The commands -/

/-- RETIREMENT (R115). -/
def execRetirement (i : Slot) (s : State) : Host.Outcome State Fault Refusal :=
  .next (if s.retirementDue i then s.retireShadow i else s)

/-- SWITCH_EVENT (R34). -/
def execSwitchEvent (s : State) : Host.Outcome State Fault Refusal :=
  .next (if s.switchDue then s.takeSwitch else s)

end Sys2Proof.Machine
end

