-- ==== Sys2Proof/Machine/Keying.lean ====
section
/-! DEFINITION. Keying and symbol pacing (09): the key-up decision, the launch, the carries, the bridge and the tail, and the
events of one record that may displace a bridged one. -/

namespace Sys2Proof.Machine

/-! ### The launch gate (R16) -/

/-- The launch gate for a mode row, against the clock state and U as they stand (R16). -/
def State.gateOpen (s : State) (row : ModeRow) : Bool :=
  match s.time.state with
  | .locked => true
  | .holdover => decide (ceilTicks s.time.u ≤ row.tolerance)
  | .acquiring true => decide (ceilTicks s.time.u ≤ row.tolerance)
  | .acquiring false => false
  | .unset => false

/-! ### Moves of the sequencer -/

/-- The sequencer enters IDLE: KEY is released and 0 goes out (R138, R147). -/
def State.enterIdle (s : State) : State :=
  { s with keying := idleSequencer s.keying.txrdy }.put 0

/-- The sequencer enters TAIL with a rest row; the rest level goes out unless it comes from HOLD (R138, R147). -/
def State.enterTail (s : State) (row : ModeRow) (strobe : Bool) : State :=
  let s1 := { s with keying := { s.keying with
    state := .tail
    current := none
    bridged := none
    restRow := some row
    endInstant := none
    tailEnd := some (s.time.clock.add (row.tail : Int)) } }
  if strobe then s1.put row.rest else s1

/-- The sequencer enters TAIL from HOLD, with the rest row of the finished batch (R145, R146). -/
def State.tailFromHold (s : State) : State := s.enterTail (s.keying.restRow.getD factoryMode) false

/-- The tail end instant has been reached in TAIL (R147). -/
def State.tailDone (s : State) : Bool :=
  match s.keying.state, s.keying.tailEnd with
  | .tail, some x => x.reached s.time.clock
  | _, _ => false

/-- A tail of 0 ends in the event of entry (R147). -/
def State.zeroTail (s : State) : State := if s.tailDone then s.enterIdle else s

/-- A KEYING record becomes SHADOW and the sequencer goes to TAIL: from LEAD with the record's own row, its rest level put
out again; from HOLD with the row of the finished batch (R146, R148). Any other record only becomes SHADOW. -/
def State.dropRecord (s : State) (i : Slot) (o : BatchOutcome) : State :=
  match s.record i with
  | none => s
  | some r =>
    let s1 := s.becomeShadow i o
    match r.state, s.keying.state with
    | .keying, .lead => s1.enterTail r.row true
    | .keying, .hold => s1.tailFromHold
    | _, _ => s1

/-- The current record's symbols start: SYMBOLS is entered, the record is ON_AIR, the accumulator holds the preload for
its j, and symbol j goes out (R141, R57). -/
def State.startSymbols (s : State) (i : Slot) : State :=
  match s.record i with
  | none => s
  | some r =>
    let word := levelWord r.row (s.symbolValue r r.j)
    { s.setRecord i { r with state := .onAir, sent := r.sent + 1 } with
      keying := { s.keying with
        state := .symbols
        current := some i
        bridged := none
        restRow := some r.row
        endInstant := none
        tailEnd := none }
      pacer := { s.pacer with acc := preloadOf r.inc r.j, symbol := r.j } }.put word

/-- The kept key-up of the record in a slot has come due and its kept launch has not passed (R113, R139). -/
def State.keyUpReached (s : State) (i : Slot) : Bool :=
  match s.record i with
  | some r =>
    decide (r.state = .ready) && r.keptKeyUp.reached s.time.clock && !r.keptLaunch.passed s.time.clock
  | none => false

/-- The sequencer can decide the record in a slot now: it is IDLE or TAIL, or HOLD waiting for this very record
(R137, R139, R145). -/
def State.canDecide (s : State) (i : Slot) : Bool :=
  match s.keying.state with
  | .idle => true
  | .tail => true
  | .hold => decide (s.keying.bridged = some i) && s.keying.current.isNone
  | .lead => false
  | .symbols => false

/-- A key-up decision is due for the record in a slot (R113, R139). -/
def State.keyUpDue (s : State) (i : Slot) : Bool :=
  s.keyUpReached i && s.canDecide i && decide (s.headReady = some i)

/-- The record passed the gate and TXRDY: it becomes KEYING and the current record; from IDLE or TAIL the sequencer enters
LEAD with the record's row, in HOLD it stays (R140 step 3). -/
def State.becomeKeying (s : State) (i : Slot) (r : Record) : State :=
  let s1 := s.setRecord i { r with state := .keying }
  match s.keying.state with
  | .hold => { s1 with keying := { s1.keying with current := some i, bridged := none } }
  | _ =>
    { s1 with keying := { s1.keying with
      state := .lead
      current := some i
      bridged := none
      restRow := some r.row
      endInstant := none
      tailEnd := none } }.put r.row.rest

/-- A decision that refuses the record: it becomes SHADOW; IDLE and TAIL stay as they were and HOLD goes to TAIL
(R140, R145). -/
def State.refuseKeyUp (s : State) (i : Slot) (o : BatchOutcome) : State :=
  let s1 := s.becomeShadow i o
  match s.keying.state with
  | .hold => s1.tailFromHold.zeroTail
  | _ => s1

/-- The key-up decision: the gate, TXRDY, then KEYING with the read of the block of symbol j; a kept launch already
reached starts the symbols in the same event (R140, R141, R104). -/
def State.decideKeyUp (s : State) (i : Slot) : State :=
  match s.record i with
  | none => s
  | some r =>
    if s.gateOpen r.row = false then (s.latch .muted).refuseKeyUp i .muted
    else if s.keying.txrdy = false then (s.latch .tx).refuseKeyUp i .notReady
    else
      let s1 := s.becomeKeying i r
      match s.readBlock r (r.j / Config.blockSymbols) with
      | none => ((s1.latch .store).dropRecord i .storeFault).zeroTail
      | some img =>
        let s2 := { s1 with pacer := { acc := 0, symbol := r.j, block := some img, next := none } }
        if r.keptLaunch.reached s.time.clock then s2.startSymbols i else s2

/-- The head READY record is considered in the event that follows: decided there, when its key-up has come due (R139;
log 42). -/
def State.considerNext (s : State) : State :=
  s.follow (match s.headReady with
    | some b => if s.keyUpDue b then [.keyUp b] else []
    | none => [])

/-- A key-up decision, and after one that makes the record SHADOW the look at the new head READY record (R139, R140). -/
def State.decideThenNext (s : State) (i : Slot) : State :=
  let t := s.decideKeyUp i
  if t.isShadow i then t.considerNext else t

/-- The decision of the head READY record, when its key-up has come due (R139). -/
def State.decideIfDue (s : State) : State :=
  match s.headReady with
  | none => s
  | some i => if s.keyUpDue i then s.decideThenNext i else s

/-- The head READY record has the kept key-up that it had before the event: one that a head trim of this event formed again
comes due in the event that follows, if it is reached (R130). -/
def State.keyUpStands (before s : State) : Bool :=
  decide ((s.headReady.bind before.record).map (·.keptKeyUp) = (s.headReady.bind s.record).map (·.keptKeyUp))

/-- What belongs to the event in which TAIL was entered, `before` being the state before the event: the decision due then,
and the end of a tail of 0 (R147). A key-up that a run of the resolver formed again comes due in the event that follows the
run (R130), so it is not decided here. -/
def State.afterTailEntry (before s : State) : State :=
  if before.keying.state ≠ .tail ∧ s.keying.state = .tail then
    (if State.keyUpStands before s then s.decideIfDue else s).zeroTail
  else s

/-- HOLD ends early before the decision, `before` being the state before the event: in this event the bridged record left
READY, or stopped being the head READY record, or a head trim moved its kept launch to more than the bridge limit after the
end instant (R146; log 23). An event that changes nothing of the table ends no HOLD. -/
def State.holdEnds (before s : State) : Bool :=
  match s.keying.state, s.keying.current, s.keying.bridged, s.keying.endInstant with
  | .hold, none, some i, some e =>
    (before.isReady i && !s.isReady i)
      || (decide (before.headReady = some i) && decide (s.headReady ≠ some i))
      || (match s.record i, before.record i with
          | some r, some r0 =>
            decide (r.j ≠ r0.j) && decide ((s.store.settings.bridgeLimit : Int) < r.keptLaunch.diff e)
          | _, _ => false)
  | _, _, _, _ => false

/-- What an event that changed the table owes the sequencer: the early end of HOLD, and what belongs to an entry into
TAIL (R146, R147). -/
def State.settleKeying (before s : State) : State :=
  State.afterTailEntry before (if State.holdEnds before s then s.tailFromHold else s)

/-! ### The pacer -/

/-- The next block the current record calls for: in SYMBOLS the block after the one whose last symbol is in progress, when
it holds a kept symbol and no stop is set; before the launch the block of a raised j (R103, R141). -/
def State.blockWanted (s : State) : Option (Slot × Record × Nat) :=
  match s.keying.current with
  | none => none
  | some i =>
    match s.record i with
    | none => none
    | some r =>
      match r.state, s.keying.state with
      | .onAir, .symbols =>
        let b := s.pacer.symbol / Config.blockSymbols + 1
        if s.pacer.symbol % Config.blockSymbols = 255 ∧ Config.blockSymbols * b < r.k ∧ r.stop = none
            ∧ s.pacer.next.map (·.index) ≠ some b then some (i, r, b)
        else none
      | .keying, _ =>
        let b := r.j / Config.blockSymbols
        if s.pacer.block.map (·.index) ≠ some b then some (i, r, b) else none
      | _, _ => none

/-- A block read on the air: held for the pacer, or a read fault that sets the stop after the symbol in progress
(R103, R104). -/
def State.readOnAir (s : State) (i : Slot) (r : Record) (b : Nat) : State :=
  match s.readBlock r b with
  | some img => { s with pacer := { s.pacer with next := some img } }
  | none =>
    (s.latch .store).setRecord i { r with stop := some { symbol := s.pacer.symbol, outcome := .storeFault } }

/-- The block of a raised j, read before the launch; a fault is handled as one at the key-up decision (R141). -/
def State.readBeforeLaunch (s : State) (i : Slot) (r : Record) (b : Nat) : State :=
  match s.readBlock r b with
  | some img => { s with pacer := { s.pacer with block := some img, next := none } }
  | none => State.settleKeying s ((s.latch .store).dropRecord i .storeFault)

/-- The kept launch of the current KEYING record has been reached in LEAD or HOLD (R141, R145). -/
def State.launchDue (s : State) : Option Slot :=
  match s.keying.state, s.keying.current with
  | .lead, some i =>
    match s.record i with
    | some r => if r.state = .keying ∧ r.keptLaunch.reached s.time.clock = true then some i else none
    | none => none
  | .hold, some i =>
    match s.record i with
    | some r => if r.state = .keying ∧ r.keptLaunch.reached s.time.clock = true then some i else none
    | none => none
  | _, _ => none

/-- A carry of the accumulator waits in SYMBOLS (R58, R142). -/
def State.carryDue (s : State) : Bool := decide (s.keying.state = .symbols) && decide (2 ^ 32 ≤ s.pacer.acc)

/-- The bridge test on a head READY record: its kept launch minus the end instant is not above the bridge limit, and has
not passed (R144). -/
def State.bridges (s : State) (i : Slot) (endAt : Instant) : Bool :=
  match s.record i with
  | some r =>
    decide (r.keptLaunch.diff endAt ≤ (s.store.settings.bridgeLimit : Int)) && !r.keptLaunch.passed s.time.clock
  | none => false

/-- The end of symbols: the record retires, and the sequencer bridges to the head READY record or enters TAIL (R144). -/
def State.endOfSymbols (s : State) (i : Slot) (r : Record) : State :=
  let s1 := s.retire i r r.airOutcome
  let tail := State.afterTailEntry s (s1.enterTail r.row true)
  match s1.headReady with
  | none => tail
  | some b =>
    if s1.bridges b s.time.clock then
      let s2 := { s1 with keying := { s1.keying with
        state := .hold
        current := none
        bridged := some b
        restRow := some r.row
        endInstant := some s.time.clock
        tailEnd := none } }.put r.row.rest
      if s2.keyUpDue b then s2.decideThenNext b else s2
    else tail

/-- The stop of the current record: SHADOW with the outcome that set the stop, and TAIL with the record's row; no bridge
test is made (R149). -/
def State.stopRecord (s : State) (i : Slot) (r : Record) (o : BatchOutcome) : State :=
  State.afterTailEntry s ((s.becomeShadow i o).enterTail r.row true)

/-- The next symbol goes out (R142, R143). -/
def State.nextSymbol (s : State) (i : Slot) (r : Record) : State :=
  let m := s.pacer.symbol + 1
  let word := levelWord r.row (s.symbolValue r m)
  let shift := decide (m % Config.blockSymbols = 0)
  { s.setRecord i { r with sent := r.sent + 1 } with
    pacer := { s.pacer with
      symbol := m
      block := if shift then s.pacer.next else s.pacer.block
      next := if shift then none else s.pacer.next } }.put word

/-- The carry with 2^32 taken off the accumulator (R58). -/
def State.takeCarry (s : State) : State := { s with pacer := { s.pacer with acc := ((s.pacer.acc : Int) - 4294967296).toNat } }

/-- A carry: the stop, the end of symbols, or the next symbol (R142, R144, R149). -/
def State.carry (s : State) : State :=
  match s.keying.current with
  | none => s
  | some i =>
    match s.record i with
    | none => s
    | some r =>
      let s1 := s.takeCarry
      match r.stop with
      | some st =>
        if st.symbol ≤ s.pacer.symbol then s1.stopRecord i r st.outcome
        else if r.k ≤ s.pacer.symbol + 1 then s1.endOfSymbols i r
        else s1.nextSymbol i r
      | none =>
        if r.k ≤ s.pacer.symbol + 1 then s1.endOfSymbols i r else s1.nextSymbol i r

/-! ### The commands -/

/-- DEADLINE (R109). -/
def execDeadline (i : Slot) (s : State) : Host.Outcome State Fault Refusal :=
  .next (State.retireNext s (if s.deadlineDue i then State.settleKeying s (s.deadlineActs i) else s))

/-- KEPT_END_WHILE_LATE (R112). -/
def execKeptEndWhileLate (i : Slot) (s : State) : Host.Outcome State Fault Refusal :=
  .next (State.retireNext s
    (if s.keptEndDue i then State.settleKeying s (s.becomeShadow i .droppedLate) else s))

/-- KEY_UP (R113, R139, R140). -/
def execKeyUp (i : Slot) (s : State) : Host.Outcome State Fault Refusal :=
  .next (State.retireNext s (if s.keyUpDue i then s.decideThenNext i else s))

/-- MISSED_LAUNCH (R113). -/
def execMissedLaunch (i : Slot) (s : State) : Host.Outcome State Fault Refusal :=
  .next (State.retireNext s (if s.launchMissed i then State.settleKeying s (s.becomeShadow i .droppedLate) else s))

/-- LAUNCH (R141). -/
def execLaunch (s : State) : Host.Outcome State Fault Refusal :=
  .next (match s.launchDue with
    | some i => s.startSymbols i
    | none => s)

/-- PACER_CARRY (R142). -/
def execPacerCarry (s : State) : Host.Outcome State Fault Refusal :=
  .next (State.retireNext s (if s.carryDue then s.carry else s))

/-- BLOCK_READ (R103, R141). -/
def execBlockRead (s : State) : Host.Outcome State Fault Refusal :=
  .next (State.retireNext s (match s.blockWanted with
    | none => s
    | some (i, r, b) => if r.state = .onAir then s.readOnAir i r b else s.readBeforeLaunch i r b))

/-- TAIL_END (R147). -/
def execTailEnd (s : State) : Host.Outcome State Fault Refusal :=
  .next (State.retireNext s (if s.tailDone then s.enterIdle.decideIfDue else s))

/-- TXRDY_FALL: a fall while KEY is asserted raises the TX alarm event and changes nothing else (R150). -/
def execTxrdyFall (s : State) : Host.Outcome State Fault Refusal :=
  .next (if s.keying.txrdy then
      let s1 := { s with keying := { s.keying with txrdy := false } }
      if s.key then s1.latch .tx else s1
    else s)

end Sys2Proof.Machine
end

