-- ==== Sys2Proof/Machine/Conflicts.lean ====
section
/-! DEFINITION. The conflict resolver (08_air_time_conflicts). It holds no state of its own: it reads and writes the
records of the batch table. -/

namespace Sys2Proof.Machine

/-- Two records conflict when each one's N is earlier than the other's nominal end widened by the guard (R125). -/
def conflict (guard : Nat) (a b : Record) : Bool :=
  decide (a.launch.diff (b.widenedEnd guard) < 0) && decide (b.launch.diff (a.widenedEnd guard) < 0)

/-- `a` wins over `b`: by higher class, then by earlier N, then by the batch number that precedes (R126). -/
def wins (a b : Record) : Bool :=
  if b.cls.val < a.cls.val then true
  else if a.cls.val < b.cls.val then false
  else if a.launch.diff b.launch < 0 then true
  else if b.launch.diff a.launch < 0 then false
  else precedes a.number b.number

/-- The winner is a head winner: its N is not later than the loser's (R126). -/
def headWinner (w l : Record) : Bool := decide (w.launch.diff l.launch ≤ 0)

/-- The loser's first boundary at or after the winner's widened end (R127). -/
def headBoundary (guard : Nat) (w l : Record) : Nat :=
  firstBoundary l.inc ((w.widenedEnd guard).diff l.launch)

/-- The loser's last boundary at or before the winner's N less the guard (R128). -/
def tailBoundary (guard : Nat) (w l : Record) : Nat :=
  lastBoundary l.inc ((w.launch.add (-(guard : Int))).diff l.launch)

/-- The loser with its j raised by a head winner, its kept launch, kept key-up and deadline formed again (R127). -/
def headTrim (guard margin : Nat) (w l : Record) : Record :=
  let b := headBoundary guard w l
  if l.j < b then ({ l with j := b }).reformed margin else l

/-- The loser with its k lowered by a tail winner (R128). -/
def tailTrim (guard : Nat) (w l : Record) : Record :=
  let b := tailBoundary guard w l
  if b < l.k then { l with k := b } else l

/-- A trimmed range is dropped: it is shorter than the join minimum, or holds no symbol whatever the join minimum of its row
(a recalled row may hold 0), or is cut at its head under DROP (R129). -/
def droppedByTrim (r : Record) : Bool :=
  decide ((r.k : Int) - (r.j : Int) < (r.row.joinMin : Int)) || decide (r.k ≤ r.j)
    || (decide (0 < r.j) && r.row.late.drops)

/-- A waiting or KEYING loser is trimmed against a winner, and judged when the trim changed it (R127 to R129). -/
def State.trimWaiting (s : State) (guard : Nat) (i : Slot) (w l : Record) : State :=
  let l' := if headWinner w l then headTrim guard s.store.settings.setupMargin w l else tailTrim guard w l
  if l'.j = l.j ∧ l'.k = l.k then s
  else
    let s1 := s.setRecord i l'
    if droppedByTrim l' then s1.dropRecord i .droppedConflict else s1

/-- An ON_AIR loser is cut ahead of the symbol in progress, or is left as it is and its winner, the record in slot `iw`,
is dropped (R131, R132). -/
def State.trimOnAir (s : State) (guard : Nat) (i iw : Slot) (w l : Record) : State :=
  if headWinner w l then
    if l.j < headBoundary guard w l then s.becomeShadow iw .droppedLate else s
  else
    let b := tailBoundary guard w l
    if l.k ≤ b then s
    else if s.pacer.symbol < b then s.setRecord i { l with k := b }
    else s.becomeShadow iw .droppedLate

/-- The loser in slot `i` is trimmed against the winner in slot `iw`, each in its state as it stands (R124). A SHADOW loser
is not trimmed (R129). -/
def State.trim (s : State) (guard : Nat) (i iw : Slot) (w l : Record) : State :=
  match l.state with
  | .shadow => s
  | .onAir => s.trimOnAir guard i iw w l
  | .assembling => s.trimWaiting guard i w l
  | .ready => s.trimWaiting guard i w l
  | .keying => s.trimWaiting guard i w l

/-- First pass, one existing record: the new record is trimmed against it when they conflict and it wins (R124). -/
def State.firstPass (guard : Nat) (new : Slot) (s : State) (e : Slot) : State :=
  if e = new then s
  else
    match s.record new, s.record e with
    | some r, some w => if conflict guard r w ∧ wins w r = true then s.trim guard new e w r else s
    | _, _ => s

/-- Second pass, one existing record: it is trimmed against the new record when they conflict and it loses (R124). -/
def State.secondPass (guard : Nat) (new : Slot) (s : State) (e : Slot) : State :=
  if e = new then s
  else
    match s.record new, s.record e with
    | some w, some l => if conflict guard w l ∧ wins w l = true then s.trim guard e new w l else s
    | _, _ => s

/-- The run of the resolver for a new record, the guard read once at its start (R124). -/
def State.resolve (s : State) (new : Slot) : State :=
  let guard := s.store.settings.guard
  allSlots.foldl (State.secondPass guard new) (allSlots.foldl (State.firstPass guard new) s)

end Sys2Proof.Machine
end

