-- ==== Sys2Proof/Machine/Replies.lean ====
section
/-! DEFINITION. The reply bodies and the rows the management engine reads (R157 to R160, R180). -/

namespace Sys2Proof.Machine

/-- A reply body: kind, site address, request tag, echo, result, frame index, final flag, data (R157, R177). -/
def replyBody (h : Handed) (echo result : Byte) (frame : Nat) (final : Bool) (data : List Byte) : List Byte :=
  [0x6D] ++ bytesOf 2 h.dest.toNat ++ [h.tag, echo, result] ++ bytesOf 1 frame ++ [if final then 0x01 else 0x00]
    ++ data

/-- A request is answered: a single-frame reply for a unicast request, nothing for a group or broadcast one (R157). -/
def State.answer (s : State) (h : Handed) (q : Request) (res : Result) (data : List Byte) : State :=
  match h.addressing with
  | .unicast => s.placeReply h.link (replyBody h q.code res.code 0 true data)
  | .group => s
  | .broadcast => s

/-- The engine-busy flag (R42, R158). -/
def State.busy (s : State) : Bool := decide (s.engine ≠ .free)

/-- How many records are in a state (R123). -/
def State.countIn (s : State) (c : RecordState) : Nat := (s.records.filter (fun r => r.state == c)).length

/-- The has-estimate flag, clear outside ACQUIRING (R17). -/
def ClockState.hasEstimate : ClockState → Bool
  | .acquiring e => e
  | .unset => false
  | .locked => false
  | .holdover => false

/-- The 32 data bytes of STATUS (R158, R180). -/
def State.statusData (s : State) : List Byte :=
  instantBytes s.time.clock
    ++ [s.time.state.code, flagByte [s.time.state.hasEstimate, s.time.stepPending, s.busy, s.store.nvFault]]
    ++ bytesOf 4 (ceilTicks s.time.u)
    ++ bytesOf 1 s.store.active.val
    ++ (match s.store.pending with
      | none => [0x00, 0x00] ++ bytesOf 4 0
      | some p => [0x01] ++ bytesOf 1 p.target.val ++ bytesOf 4 p.second.toNat)
    ++ [flagByte [s.linkA.up, s.linkB.up], s.keying.state.code]
    ++ bytesOf 1 (s.countIn .assembling) ++ bytesOf 1 (s.countIn .ready) ++ bytesOf 1 (s.countIn .keying)
    ++ bytesOf 1 (s.countIn .onAir) ++ bytesOf 1 (s.countIn .shadow)
    ++ bytesOf 2 s.symbols.free.length
    ++ [s.conditions, s.latches]

/-- A history entry, 20 bytes (R180). -/
def entryBytes (e : HistoryEntry) : List Byte :=
  bytesOf 2 e.number.toNat ++ bytesOf 1 e.zone.val ++ bytesOf 1 e.mode.val ++ bytesOf 1 e.cls.val
    ++ [outcomeByte (some e.outcome), sourceByte e.sourceA e.sourceB, 0x00] ++ instantBytes e.launch
    ++ bytesOf 2 e.j ++ bytesOf 2 e.sent

/-- A BATCHES row, 24 bytes (R180). -/
def batchBytes (r : Record) : List Byte :=
  bytesOf 2 r.number.toNat ++ [r.state.code, outcomeByte r.shadow] ++ bytesOf 1 r.cls.val
    ++ bytesOf 1 r.profileUsed.val ++ bytesOf 2 (min r.j r.total) ++ bytesOf 2 r.k ++ instantBytes r.keptKeyUp
    ++ bytesOf 2 r.parts.toNat ++ [sourceByte r.sourceA r.sourceB, flagByte [r.late, r.joined]] ++ bytesOf 2 r.sent

/-- The rows of a table as they stand (R159). -/
def State.rows (s : State) : TableId → List (List Byte)
  | .settings => [settingsBytes s.store.settings]
  | .site p => [siteBytes (s.store.profiles.get p)]
  | .modes p => (s.store.profiles.get p).modes.toList.map modeBytes
  | .zones p => (s.store.profiles.get p).zones.toList.map zoneBytes
  | .history => s.history.map entryBytes
  | .counters => s.counters.toList.map (fun c => bytesOf 4 c.toNat)
  | .batches => s.records.map batchBytes

/-- The data of a READ frame: the table identifier as requested, the row index of its first row, the number of its rows,
and the rows (R180). -/
def readData (table : Byte) (first : Nat) (rows : List (List Byte)) : List Byte :=
  [table] ++ bytesOf 1 first ++ bytesOf 1 rows.length ++ rows.flatten

/-- The range of a READ, fixed at its taking: the first row and the row it ends before; none for NO_SUCH (R159). -/
def readRange (t : TableId) (held first count : Nat) : Option (Nat × Nat) :=
  if t.moving then
    if first < held then some (first, if count = 0 then held else min held (first + count))
    else if first = 0 ∧ held = 0 then some (0, 0)
    else none
  else
    if first < held ∧ first + count ≤ held then some (first, if count = 0 then held else first + count) else none

/-- The next frame of a multi-frame READ: the rows of the range as the table stands, the final flag when the frame reaches
the end of the range or of the table, and the operation that is left (R160). -/
def State.readFrame (s : State) (op : ReadOp) : List Byte × Bool × ReadOp :=
  match tableOf op.table with
  | none => (replyBody op.handed Request.read.code Result.done.code op.frame true (readData op.table op.next []), true, op)
  | some t =>
    let all := s.rows t
    let take := min t.frameRows (op.stop - op.next)
    let rows := (all.drop op.next).take take
    let next := op.next + rows.length
    let final := decide (op.stop ≤ next) || decide (all.length ≤ next)
    (replyBody op.handed Request.read.code Result.done.code op.frame final (readData op.table op.next rows),
      final, { op with next := next, frame := op.frame + 1, stall := 0 })

/-- The reply queue of a link has a free place (R70). -/
def State.hasPlace (s : State) (l : Link) : Bool := decide ((s.link l).replies.length < Config.replyPlaces)

/-- The next frame of a multi-frame READ made and placed; the engine is free once it was the final one (R160). -/
def State.placeReadFrame (s : State) (op : ReadOp) : State :=
  match s.readFrame op with
  | (body, final, rest) =>
    { s.placeReply op.handed.link body with engine := if final then .free else .reading rest }

/-! ### The events of a multi-frame READ -/

/-- A READ's next frame can be made: the READ is in progress and its queue has a place (R72). -/
def State.readFrameDue (s : State) : Bool :=
  match s.engine with
  | .reading op => s.hasPlace op.handed.link
  | _ => false

/-- A READ has waited 2 s without a place (R72). -/
def State.readStallDue (s : State) : Bool :=
  match s.engine with
  | .reading op => !s.hasPlace op.handed.link && decide (Config.stallPeriods ≤ op.stall)
  | _ => false

/-- READ_FRAME_PLACED (R72, R160). -/
def execReadFramePlaced (s : State) : Host.Outcome State Fault Refusal :=
  .next (match s.engine with
    | .reading op => if s.hasPlace op.handed.link then s.placeReadFrame op else s
    | _ => s)

/-- READ_STALL (R72, R160). -/
def execReadStall (s : State) : Host.Outcome State Fault Refusal :=
  .next (if s.readStallDue then { s with engine := .free }.bump (.mgmt .stallEnds) else s)

end Sys2Proof.Machine
end

