-- ==== Sys2Proof/Machine/Management.lean ====
section
/-! DEFINITION. The management engine (10_management_requests) and the requests of the profile store (02): each request as
it is carried out, and the thirteen commands with the one for a code that is not understood. -/

namespace Sys2Proof.Machine

/-! ### Settings put in place -/

/-- A link's rate change, when the new settings record holds another code than the old (R73). -/
def State.rateFollows (h : Handed) (old new : Settings) (s : State) (l : Link) : State :=
  if old.rate l = new.rate l then s else s.changeRate h l (new.rate l)

/-- The settings record replaced by a request: a link whose silence time is now below the time already run goes DOWN at
once, the reply is placed, and each link's rate change follows it (R26, R67, R70, R73; log 38). -/
def State.installSettings (s : State) (h : Handed) (new : Settings) (reply : State → State) : State :=
  let old := s.store.settings
  let s1 := { s with store := { s.store with settings := new } }
  let s2 := reply ((s1.silenceCheck .a).silenceCheck .b)
  State.rateFollows h old new (State.rateFollows h old new s2 .a) .b

/-! ### WRITE (R29 to R31, R161) -/

/-- Rows put into a table from a first row on. -/
def overwrite {α : Type} {n : Nat} : Vector α n → Nat → List α → Vector α n
  | v, _, [] => v
  | v, first, x :: xs => overwrite (if h : first < n then v.set first x h else v) (first + 1) xs

/-- A working profile replaced. -/
def State.setProfile (s : State) (p : Fin 4) (f : Profile) : State :=
  { s with store := { s.store with profiles := s.store.profiles.set p.val f p.isLt } }

/-- The profile of a WRITE that the interlock guards; none for SETTINGS (R29). -/
def TableId.profile : TableId → Option (Fin 4)
  | .site p => some p
  | .modes p => some p
  | .zones p => some p
  | .settings => none
  | .history => none
  | .counters => none
  | .batches => none

/-- A WRITE to a profile table is refused with IN_USE: the profile is active, or the pending target (R29). -/
def State.profileInUse (s : State) (p : Fin 4) : Bool :=
  decide (s.store.active = p) || (match s.store.pending with
    | some sw => decide (sw.target = p)
    | none => false)

/-- The rows of a table a WRITE may name; none for one that is read only (R161). -/
def TableId.writableRows : TableId → Option Nat
  | .settings => some 1
  | .site _ => some 1
  | .modes _ => some 8
  | .zones _ => some 64
  | .history => none
  | .counters => none
  | .batches => none

/-- CLAMPED when a value was clamped, DONE otherwise (R31). -/
def writeResult (clamped : Bool) : Result := if clamped then .clamped else .done

/-- The rows of a WRITE put in place, or RANGE when one of them holds a refused value; the reply with it (R30, R31). -/
def State.writeRows (s : State) (h : Handed) (t : TableId) (first : Nat) (rows : List (List Byte)) : State :=
  match t with
  | .settings =>
    match readSettings (rows.headD []) with
    | none => s.answer h .write .range []
    | some raw =>
      let kept := keptSettings raw
      s.installSettings h kept (fun s1 => s1.answer h .write (writeResult (decide (kept ≠ raw))) [])
  | .site p =>
    let raw := intAt (rows.headD []) 0 4
    let kept := clampOffset raw
    (s.setProfile p { s.store.profiles.get p with siteOffset := kept }).answer h .write
      (writeResult (decide (kept ≠ raw))) []
  | .modes p =>
    match rows.mapM readMode with
    | none => s.answer h .write .range []
    | some raw =>
      let kept := raw.map clampMode
      let f := s.store.profiles.get p
      (s.setProfile p { f with modes := overwrite f.modes first kept }).answer h .write
        (writeResult (decide (kept ≠ raw))) []
  | .zones p =>
    match rows.mapM readZone with
    | none => s.answer h .write .range []
    | some raw =>
      let kept := raw.map clampZone
      let f := s.store.profiles.get p
      (s.setProfile p { f with zones := overwrite f.zones first kept }).answer h .write
        (writeResult (decide (kept ≠ raw))) []
  | .history => s.answer h .write .readOnly []
  | .counters => s.answer h .write .readOnly []
  | .batches => s.answer h .write .readOnly []

/-- The tests of a WRITE in the order of R161, as far as its rows' values: the refusal, or the table, the first row and
the rows. -/
def State.judgeWrite (s : State) (params : List Byte) : Except Result (TableId × Nat × List (List Byte)) :=
  if params.length < 2 then .error .range
  else
    match tableOf (params.getD 0 0) with
    | none => .error .noSuch
    | some t =>
      let carried := params.drop 2
      let first := (params.getD 1 0).toNat
      let n := carried.length / t.rowSize
      if carried = [] ∨ carried.length % t.rowSize ≠ 0 then .error .range
      else
        match t.writableRows with
        | none => .error .readOnly
        | some held =>
          if held < first + n then .error .noSuch
          else
            match t.profile with
            | some p =>
              if s.profileInUse p then .error .inUse else .ok (t, first, rowsOf t.rowSize n carried)
            | none => .ok (t, first, rowsOf t.rowSize n carried)

/-- WRITE carried out (R161). -/
def State.doWrite (s : State) (h : Handed) (params : List Byte) : State :=
  match s.judgeWrite params with
  | .error res => s.answer h .write res []
  | .ok (t, first, rows) => s.writeRows h t first rows

/-! ### The other requests -/

/-- STATUS carried out (R158). -/
def State.doStatus (s : State) (h : Handed) : State := s.answer h .status .done s.statusData

/-- A multi-frame READ is begun: the first frame is made at once when the queue has a place (R72, R160). -/
def State.beginRead (s : State) (op : ReadOp) : State :=
  if s.hasPlace op.handed.link then s.placeReadFrame op else { s with engine := .reading op }

/-- READ carried out: answered in one frame, begun as a multi-frame READ, or refused with NO_SUCH (R159, R160). -/
def State.doRead (s : State) (h : Handed) (params : List Byte) : State :=
  let id := params.getD 0 0
  match tableOf id with
  | none => s.answer h .read .noSuch []
  | some t =>
    let all := s.rows t
    match readRange t all.length (params.getD 1 0).toNat (params.getD 2 0).toNat with
    | none => s.answer h .read .noSuch []
    | some (first, stop) =>
      if stop - first ≤ t.frameRows then
        s.answer h .read .done (readData id first ((all.drop first).take (stop - first)))
      else
        match h.addressing with
        | .unicast => s.beginRead { handed := h, table := id, next := first, stop := stop, frame := 0, stall := 0 }
        | .group => s
        | .broadcast => s

/-- DIGEST carried out (R36, R162). -/
def State.doDigest (s : State) (h : Handed) (params : List Byte) : State :=
  if hp : (params.getD 0 0).toNat < 4 then
    s.answer h .digest .done (bytesOf 2 (crc16 (profileImage (s.store.profiles.get ⟨_, hp⟩))).toNat)
  else s.answer h .digest .range []

/-- The pending switch cannot be moved or removed: batches depend on it (R32, R33). -/
def State.switchHeld (s : State) : Bool := s.store.pending.isSome && decide (0 < s.dependentCount)

/-- A pending switch created, replaced or removed: the dependent marks are cleared (R28, R32, R33). -/
def State.setPending (s : State) (p : Option PendingSwitch) : State :=
  { s with store := { s.store with pending := p } }.clearDependents

/-- SWITCH carried out (R32). -/
def State.doSwitch (s : State) (h : Handed) (params : List Byte) : State :=
  let target := (params.getD 0 0).toNat
  let second : Word32 := BitVec.ofNat 32 (natAt params 1 4)
  if ht : target < 4 then
    if s.store.active = ⟨target, ht⟩ ∨ secondDiff second (s.time.clock.sec + 1) ≤ 0 then
      s.answer h .switch .range []
    else if s.switchHeld then s.answer h .switch .inUse []
    else (s.setPending (some { target := ⟨target, ht⟩, second := second })).answer h .switch .done []
  else s.answer h .switch .range []

/-- CANCEL_SWITCH carried out (R33). -/
def State.doCancelSwitch (s : State) (h : Handed) : State :=
  if s.switchHeld then s.answer h .cancelSwitch .inUse []
  else if s.store.pending.isSome then (s.setPending none).answer h .cancelSwitch .done []
  else s.answer h .cancelSwitch .done []

/-- STORE carried out: the snapshot is taken and the engine is busy (R37, R163). -/
def State.doStore (s : State) (h : Handed) : State :=
  let op : StoreOp :=
    { snapshot := snapshotBytes s.store.settings s.store.profiles s.store.active, handed := h, elapsed := 0 }
  { s with engine := .storing op }

/-- RECALL carried out (R39, R163). -/
def State.doRecall (s : State) (h : Handed) : State :=
  if s.store.pending.isSome ∨ s.records ≠ [] then s.answer h .recall .inUse []
  else
    match readCopy s.store.nv with
    | none => (s.setNvFault true).answer h .recall .nvFail []
    | some (settings, profiles, active) =>
      { s with store := { s.store with profiles := profiles, active := active } }.installSettings h settings
        (fun s1 => s1.answer h .recall .done [])

/-- An abort acts on one record, by state (R118, R119). -/
def State.abortRecord (s : State) (i : Slot) : State :=
  match s.record i with
  | none => s
  | some r =>
    match r.state with
    | .shadow => s
    | .onAir =>
      if r.stop = none then
        s.setRecord i { r with stop := some { symbol := s.pacer.symbol, outcome := .aborted } }
      else s
    | .assembling => s.dropRecord i .aborted
    | .ready => s.dropRecord i .aborted
    | .keying => s.dropRecord i .aborted

/-- ABORT carried out (R164). What the sequencer owes is done once the whole request has acted (log 21). -/
def State.doAbort (s : State) (h : Handed) (params : List Byte) : State :=
  if params.getD 0 0 = 0x00 then
    match s.slotOf (BitVec.ofNat 16 (natAt params 1 2)) with
    | none => s.answer h .abort .noSuch []
    | some i => (State.retireNext s (State.settleKeying s (s.abortRecord i))).answer h .abort .done []
  else if params.getD 0 0 = 0x01 then
    (State.retireNext s (State.settleKeying s (allSlots.foldl State.abortRecord s))).answer h .abort .done []
  else s.answer h .abort .range []

/-- ACK_ALARMS carried out (R165, R174). -/
def State.doAckAlarms (s : State) (h : Handed) (params : List Byte) : State :=
  { s with latches := s.latches &&& ~~~(params.getD 0 0) }.answer h .ackAlarms .done []

/-- CLEAR_COUNTERS carried out (R165, R172). -/
def State.doClearCounters (s : State) (h : Handed) : State :=
  { s with counters := Vector.replicate Config.counters 0 }.answer h .clearCounters .done []

/-- SET_LINK_RATE carried out (R73, R166). -/
def State.doSetLinkRate (s : State) (h : Handed) (params : List Byte) : State :=
  let code := (params.getD 1 0).toNat
  match linkOf (params.getD 0 0) with
  | none => s.answer h .setLinkRate .range []
  | some l =>
    if 1 ≤ code ∧ code ≤ 7 then
      let old := s.store.settings
      let new := old.setRate l code
      State.rateFollows h old new
        ({ s with store := { s.store with settings := new } }.answer h .setLinkRate .done []) l
    else s.answer h .setLinkRate .range []

/-- RESTART carried out: the reply is placed, and the warm restart is the next event (R167; log 42). -/
def State.doRestart (s : State) (h : Handed) : State :=
  { s.answer h .restart .done [] with restartCalled := true }.follow [.warmRestart]

/-- A request carried out, its parameters of the right length (R157). -/
def State.carryOut (s : State) (q : Request) (h : Handed) (params : List Byte) : State :=
  match q with
  | .status => s.doStatus h
  | .read => s.doRead h params
  | .write => s.doWrite h params
  | .digest => s.doDigest h params
  | .switch => s.doSwitch h params
  | .cancelSwitch => s.doCancelSwitch h
  | .store => s.doStore h
  | .recall => s.doRecall h
  | .abort => s.doAbort h params
  | .ackAlarms => s.doAckAlarms h params
  | .clearCounters => s.doClearCounters h
  | .setLinkRate => s.doSetLinkRate h params
  | .restart => s.doRestart h

/-- A request that is served while the engine is busy (R156). -/
def Request.servedBusy (q : Request) : Bool := decide (q = .status) || decide (q = .abort)

/-- A request turned away by a busy engine (R156). -/
def State.turnAway (s : State) (q : Request) (h : Handed) : State :=
  match h.addressing with
  | .unicast => (s.bump (.mgmt .busyAnswers)).answer h q .busy []
  | .group => s.bump (.mgmt .busyDiscards)
  | .broadcast => s.bump (.mgmt .busyDiscards)

/-- A request that is not understood (R155). -/
def State.misunderstood (s : State) (h : Handed) (code : Byte) : State :=
  match h.addressing with
  | .unicast => s.placeReply h.link (replyBody h (code ||| 0x80) 0x00 0 true [])
  | .group => s
  | .broadcast => s

/-- The taking of a request (R154 to R157). -/
def State.takeRequest (s : State) (code : Byte) (h : Handed) (params : List Byte) : State :=
  let s1 := s.bump (.mgmt .requestsTaken)
  match requestOf code with
  | none => s1.misunderstood h code
  | some q =>
    if s1.busy = true ∧ q.servedBusy = false then s1.turnAway q h
    else if q.lengthOk params then s1.carryOut q h params
    else s1.answer h q .range []

/-! ### The completion of a STORE (R37, R38, R163) -/

/-- Bits of a new byte where the mask is set, of the old one elsewhere. -/
def mixByte (mask old new : Byte) : Byte := (new &&& mask) ||| (old &&& ~~~mask)

/-- The nonvolatile copy after a write of a snapshot that is not known to be sound: each bit the old one or the new one, by
a free value (R38, log 12). DESIGN CHOICE: where the old copy is blank (no bytes, log 7), an old byte that is missing is
taken as 0 in the mixture. -/
def mixedCopy (n : Nat) (old : NvCopy) (snapshot : List Byte) : NvCopy where
  bytes := snapshot.mapIdx (fun i b => mixByte (Config.nvWritten n i) (old.bytes.getD i 0) b)
  check :=
    let new := crc16 snapshot
    let mask : Word16 := Config.nvWritten n 2100 ++ Config.nvWritten n 2101
    (new &&& mask) ||| (old.check &&& ~~~mask)

/-- The copy and the NV condition after the write and verify of a STORE (R37, R38). -/
def State.storeEnded (s : State) (op : StoreOp) (verified : Bool) : State :=
  if verified then
    ({ s with
      engine := .free
      store := { s.store with nv := { bytes := op.snapshot, check := crc16 op.snapshot } } }.setNvFault false)
  else
    ({ s with
      engine := .free
      free := s.free + 1
      store := { s.store with nv := mixedCopy s.free s.store.nv op.snapshot } }.setNvFault true)

/-- STORE_COMPLETE: the reply is made now (R37, R163). -/
def execStoreComplete (verified : Bool) (s : State) : Host.Outcome State Fault Refusal :=
  .next (match s.engine with
    | .storing op =>
      (s.storeEnded op verified).answer op.handed .store (if verified then .done else .nvFail) []
    | _ => s)

/-! ### The commands -/

/-- STATUS (R158). -/
def execStatus (h : Handed) (params : List Byte) (s : State) : Host.Outcome State Fault Refusal :=
  .next (s.takeRequest Request.status.code h params)

/-- READ (R159, R160). -/
def execRead (h : Handed) (params : List Byte) (s : State) : Host.Outcome State Fault Refusal :=
  .next (s.takeRequest Request.read.code h params)

/-- WRITE (R161). -/
def execWrite (h : Handed) (params : List Byte) (s : State) : Host.Outcome State Fault Refusal :=
  .next (s.takeRequest Request.write.code h params)

/-- DIGEST (R36, R162). -/
def execDigest (h : Handed) (params : List Byte) (s : State) : Host.Outcome State Fault Refusal :=
  .next (s.takeRequest Request.digest.code h params)

/-- SWITCH (R32). -/
def execSwitch (h : Handed) (params : List Byte) (s : State) : Host.Outcome State Fault Refusal :=
  .next (s.takeRequest Request.switch.code h params)

/-- CANCEL_SWITCH (R33). -/
def execCancelSwitch (h : Handed) (params : List Byte) (s : State) : Host.Outcome State Fault Refusal :=
  .next (s.takeRequest Request.cancelSwitch.code h params)

/-- STORE (R37, R163). -/
def execStore (h : Handed) (params : List Byte) (s : State) : Host.Outcome State Fault Refusal :=
  .next (s.takeRequest Request.store.code h params)

/-- RECALL (R39). -/
def execRecall (h : Handed) (params : List Byte) (s : State) : Host.Outcome State Fault Refusal :=
  .next (s.takeRequest Request.recall.code h params)

/-- ABORT (R118, R164). -/
def execAbort (h : Handed) (params : List Byte) (s : State) : Host.Outcome State Fault Refusal :=
  .next (s.takeRequest Request.abort.code h params)

/-- ACK_ALARMS (R165). -/
def execAckAlarms (h : Handed) (params : List Byte) (s : State) : Host.Outcome State Fault Refusal :=
  .next (s.takeRequest Request.ackAlarms.code h params)

/-- CLEAR_COUNTERS (R165). -/
def execClearCounters (h : Handed) (params : List Byte) (s : State) : Host.Outcome State Fault Refusal :=
  .next (s.takeRequest Request.clearCounters.code h params)

/-- SET_LINK_RATE (R166). -/
def execSetLinkRate (h : Handed) (params : List Byte) (s : State) : Host.Outcome State Fault Refusal :=
  .next (s.takeRequest Request.setLinkRate.code h params)

/-- RESTART (R167). -/
def execRestart (h : Handed) (params : List Byte) (s : State) : Host.Outcome State Fault Refusal :=
  .next (s.takeRequest Request.restart.code h params)

/-- A request taken with a code that is none of the thirteen; a code that is one of them is that request (R155). -/
def execNotUnderstood (h : Handed) (code : Byte) (params : List Byte) (s : State) : Host.Outcome State Fault Refusal :=
  .next (s.takeRequest code h params)

end Sys2Proof.Machine
end

