-- ==== Sys2Proof/Machine/Admission.lean ====
section
/-! DEFINITION. Batch admission (05): the taking of a frame, the ordered checks on a batch part, the creation of a record,
the storing of parts, and the arbiter's choice (04, R68, R69). -/

namespace Sys2Proof.Machine

/-! ### The checks of a new batch -/

/-- The profile selected for a tag second: the pending target from the switch second on, by serial comparison, else the
active profile; and whether it is the pending target (R27). -/
def State.profileFor (s : State) (tagSec : Word32) : Fin 4 × Bool :=
  match s.store.pending with
  | some p => if 0 ≤ secondDiff tagSec p.second then (p.target, true) else (s.store.active, false)
  | none => (s.store.active, false)

/-- The record of a new batch before its initial state is decided: the launch arithmetic of R46 to R54 on one reading of
the profile, the rows, the settings and the clock (R56, R88). -/
def State.newRecord (s : State) (p : RawPart) (sel : Fin 4 × Bool) : Record :=
  let f := s.store.profiles.get sel.1
  let row := f.modes.get (Fin.ofNat 8 p.mode)
  let zone := f.zones.get (Fin.ofNat 64 p.zone)
  let tag := instantOf p.tagSec p.tagTick
  let n := tag.add (f.siteOffset + row.offset + zone.offset)
  let inc := incOf row.rate
  let r : Record :=
    { number := p.number
      zone := Fin.ofNat 64 p.zone
      mode := Fin.ofNat 8 p.mode
      cls := Fin.ofNat 4 p.cls
      tag := tag
      total := p.total
      partCount := p.count
      profileUsed := sel.1
      row := row
      dependent := sel.2
      launch := n
      inc := inc
      nominalEnd := n.add (ticksOf inc p.total : Nat)
      j := 0
      k := p.total
      keptKeyUp := n
      deadline := n
      late := false
      joined := false
      parts := 0
      chains := Vector.replicate 16 []
      sourceA := false
      sourceB := false
      state := .assembling
      shadow := none
      stop := none
      sent := 0 }
  r.reformed s.store.settings.setupMargin

/-- The initial state of a new record, by the first line of R90 that applies. -/
def initialState (zone : ZoneMode) (now : Instant) (r : Record) : Record :=
  if zone = .track then { r with state := .shadow, shadow := some .tracked }
  else if r.nominalEnd.reached now then { r with state := .shadow, shadow := some .droppedLate }
  else if r.deadline.passed now then
    if r.row.late.drops then { r with state := .shadow, shadow := some .droppedLate } else { r with late := true }
  else r

/-! ### Parts into records -/

/-- A part's index and link recorded (R86, R91). -/
def Record.accept (r : Record) (index : Nat) (l : Link) : Record :=
  { r with
    parts := r.parts ||| (1#16 <<< index)
    sourceA := r.sourceA || decide (l = .a)
    sourceB := r.sourceB || decide (l = .b) }

/-- A discarded part is counted (R95). -/
def State.discard (s : State) (c : AdmissionCounter) : State := s.bump (.admission c)

/-- A part refused for want of room raises the OVERLOAD alarm event too (R96). -/
def State.overload (s : State) (c : AdmissionCounter) : State := (s.discard c).latch .overload

/-- A part taken to shadow (R86). -/
def State.takeToShadow (s : State) (i : Slot) (r : Record) (p : RawPart) (l : Link) : State :=
  ((s.setRecord i (r.accept p.index l)).bump (.admission .takenToShadow)).bump (.link l .partsTaken)

/-- A part stored into an ASSEMBLING record, or refused as STORE_FULL; the record completes when it then holds every part
(R91, R92, R99). -/
def State.storePart (s : State) (i : Slot) (r : Record) (p : RawPart) (l : Link) : State :=
  match s.symbols.allocate p.share p.symbols with
  | none => s.overload .storeFull
  | some (chain, store) =>
    let r1 := r.accept p.index l
    let r2 := if h : p.index < 16 then { r1 with chains := r1.chains.set p.index chain h } else r1
    ((({ s with symbols := store }.setRecord i r2).bump (.link l .partsTaken)).completeRecord i)

/-- The creating part, once the resolver has run: stored, or taken to shadow when the record is SHADOW (R89). -/
def State.placeFirstPart (s : State) (i : Slot) (p : RawPart) (l : Link) : State :=
  match s.record i with
  | none => s
  | some r => if r.state = .shadow then s.takeToShadow i r p l else s.storePart i r p l

/-- The events of one record that a creation with its resolver run leaves for the event that follows: the deadline of a
record created at exactly its deadline, what a trim re-formed to an instant already reached, each as it stands then,
and the retirement of a record made SHADOW after its retirement instant (R89, R90, R109, R112, R113, R114, R130). -/
def State.newlyDue (before s : State) (i : Slot) : List Instr :=
  match s.record i with
  | none => []
  | some r =>
    let r0 := before.record i
    (if s.deadlineDue i = true ∧ r0.map (·.deadline) ≠ some r.deadline then [.deadline i] else [])
      ++ (if s.keptEndDue i = true ∧ r0.map (·.k) ≠ some r.k then [.keptEndWhileLate i] else [])
      ++ (if s.launchMissed i = true ∧ r0.map (·.j) ≠ some r.j then [.missedLaunch i] else [])
      ++ (if s.keyUpReached i = true ∧ r0.map (·.keptKeyUp) ≠ some r.keptKeyUp then [.keyUp i] else [])
      ++ (if State.retiresNext before s i = true then [.retirement i] else [])

/-- The events that follow a creation: those of each record in slot order, and the read of the block of a KEYING record's
raised j (R130, R141; log 42). -/
def State.followCreation (before s : State) : State :=
  s.follow (allSlots.flatMap (State.newlyDue before s)
    ++ (if s.blockWanted.isSome = true ∧ before.blockWanted.isSome = false then [.blockRead] else []))

/-- The creation of a record in a slot, in the order of R89. -/
def State.createRecord (s : State) (i : Slot) (r : Record) (p : RawPart) (l : Link) : State :=
  ((s.setRecord i r).resolve i).placeFirstPart i p l

/-- A new batch (R87, R88). -/
def State.newBatch (s : State) (p : RawPart) (l : Link) : State :=
  let sel := s.profileFor p.tagSec
  let f := s.store.profiles.get sel.1
  let zone := (f.zones.get (Fin.ofNat 64 p.zone)).mode.acts
  if zone = .off then s.discard .zoneOff
  else if (f.modes.get (Fin.ofNat 8 p.mode)).rate = 0 then s.discard .noMode
  else
    let r := s.newRecord p sel
    if (s.store.settings.maxLead * Config.ticksPerSecond : Nat) < r.launch.diff s.time.clock then s.discard .tooEarly
    else
      match s.lowestFree with
      | none => s.overload .tableFull
      | some i => s.createRecord i (initialState zone s.time.clock r) p l

/-- The seven compared header fields agree with the record's (R85). -/
def headerAgrees (r : Record) (p : RawPart) : Bool :=
  decide (r.zone.val = p.zone) && decide (r.mode.val = p.mode) && decide (r.cls.val = p.cls)
    && decide (r.tag.sec = p.tagSec) && decide (r.tag.tick.val = p.tagTick) && decide (r.total = p.total)
    && decide (r.partCount = p.count)

/-- A part whose batch number a record holds (R85, R86). -/
def State.knownBatch (s : State) (i : Slot) (r : Record) (p : RawPart) (l : Link) : State :=
  if headerAgrees r p = false then s.discard .mismatch
  else if r.parts.getLsbD p.index then s.discard .duplicate
  else
    match r.state with
    | .shadow => s.takeToShadow i r p l
    | .assembling => s.storePart i r p l
    | .ready => s.discard .duplicate
    | .keying => s.discard .duplicate
    | .onAir => s.discard .duplicate

/-- The site has no time (R81). -/
def State.noTime (s : State) : Bool := decide (s.time.state = .unset) || decide (s.time.state = .acquiring false)

/-- A batch part, by the ordered checks of R80. What the sequencer owes is done after the whole taking (log 30). -/
def State.takePart (s : State) (l : Link) (body : List Byte) : State :=
  let p := rawPart body
  if s.noTime then s.discard .noTime
  else if structureOk body = false then s.discard .badPart
  else if Config.ticksPerSecond ≤ p.tagTick then s.discard .badTag
  else if s.history.any (fun e => e.number == p.number) then s.discard .lateCopy
  else
    match s.slotOf p.number with
    | some i =>
      match s.record i with
      | some r => State.retireNext s (State.settleKeying s (s.knownBatch i r p l))
      | none => s
    | none => State.followCreation s (State.settleKeying s (s.newBatch p l))

/-! ### Frames -/

/-- How a destination address matches the site, first match first; none for a foreign frame (R79). -/
def Settings.matchAddress (t : Settings) (dest : Word16) : Option Addressing :=
  if dest = 0 then none
  else if dest = t.siteAddress then some .unicast
  else if t.groups.toList.contains dest then some .group
  else if dest = 0xFFFF then some .broadcast
  else none

/-- A MANAGE frame (R78, R79). -/
def State.takeManage (s : State) (l : Link) (body : List Byte) : State :=
  if body.length < 5 then s.discard .unknownKind
  else
    let dest : Word16 := BitVec.ofNat 16 (natAt body 1 2)
    match s.store.settings.matchAddress dest with
    | none => s.discard .foreign
    | some a =>
      s.takeRequest (body.getD 4 0) { link := l, addressing := a, dest := dest, tag := body.getD 3 0 } (body.drop 5)

/-- The taking of a frame: dispatched on its kind (R78). -/
def State.takeFrame (s : State) (l : Link) (body : List Byte) : State :=
  if body.getD 0 0 = 0x61 then s.takePart l body
  else if body.getD 0 0 = 0x6C then s.takeManage l body
  else s.discard .unknownKind

/-- The arbiter's choice: the link served, and the run count and its link afterwards (R69). -/
def arbitrate (settings : Settings) (ar : Arbiter) (waitA waitB : Bool) : Option (Link × Nat × Link) :=
  match waitA, waitB with
  | false, false => none
  | true, false => some (.a, 0, ar.runLink)
  | false, true => some (.b, 0, ar.runLink)
  | true, true =>
    let run := if ar.runLink = settings.preferredLink then ar.runCount else 0
    if run < settings.rotation then some (settings.preferredLink, run + 1, settings.preferredLink)
    else some (otherLink settings.preferredLink, 0, ar.runLink)

/-- The arbiter serves a link when the engine is free and a frame waits: the oldest frame of that link is taken, its buffer
is empty again, and the engine is occupied (R66, R68, R69). -/
def State.arbiterChooses (s : State) : State :=
  if s.arbiter.occupied then s
  else
    match arbitrate s.store.settings s.arbiter (decide (s.linkA.buffers ≠ [])) (decide (s.linkB.buffers ≠ [])) with
    | none => s
    | some (l, run, owner) =>
      let c := s.link l
      match c.buffers with
      | [] => s
      | body :: rest =>
        { s.setLink l { c with buffers := rest } with
          arbiter := { occupied := true, runCount := run, runLink := owner } }.takeFrame l body

/-- ADMISSION_FREE (R68). -/
def execAdmissionFree (s : State) : Host.Outcome State Fault Refusal :=
  .next ({ s with arbiter := { s.arbiter with occupied := false } }.arbiterChooses)

end Sys2Proof.Machine
end

