-- ==== Sys2Proof/Machine/Links.lean ====
section
/-! DEFINITION. The carriage links (04): the receive deframer byte by byte, the dispositions, the link state, and the reply
transmitter. The four byte commands run the same deframer, which does with a byte what its state says (log 16). -/

namespace Sys2Proof.Machine

/-! ### The gap timer (R65) -/

/-- The gap timer started: the limit is read now (R65). -/
def State.freshGap (s : State) : Option GapTimer :=
  some { elapsed := 0, limit := s.store.settings.gapLimit * Config.periodsPerMs }

/-- The deframer moved on within a frame attempt, the gap timer restarted (R65). -/
def State.deframe (s : State) (l : Link) (d : Deframer) : State :=
  s.setLink l { s.link l with deframer := d, gapTimer := s.freshGap }

/-- The gap timer of a link has run past its limit (R65). -/
def State.gapDue (s : State) (l : Link) : Bool :=
  match (s.link l).gapTimer with
  | some g => decide (g.limit < g.elapsed)
  | none => false

/-! ### Dispositions -/

/-- A GOOD frame: it enters the empty buffer, the link is UP with its silence timer restarted, a held reply begins, and the
arbiter chooses when the engine is free (R63, R66, R67, R68, R70). -/
def State.goodFrame (s : State) (l : Link) (body : List Byte) : State :=
  let s1 := s.endAttempt l .good
  let c := s1.link l
  (s1.setLink l ({ c with buffers := c.buffers ++ [body], up := true, silence := 0 }).beginReply).arbiterChooses

/-- The second check byte: BAD_CHECK, OVERRUN or GOOD (R63). -/
def State.endFrame (s : State) (l : Link) (body : List Byte) (first second : Byte) : State :=
  if crc16 body ≠ BitVec.ofNat 16 (first.toNat * 256 + second.toNat) then s.endAttempt l .badCheck
  else if Config.frameBuffers ≤ (s.link l).buffers.length then s.endAttempt l .overrun
  else s.goodFrame l body

/-- The second length byte: EMPTY, OVERSIZE, or on to BODY (R62). -/
def State.endLength (s : State) (l : Link) (first second : Byte) : State :=
  let len := first.toNat * 256 + second.toNat
  if len = 0 then s.endAttempt l .empty
  else if Config.maxBody < len then s.endAttempt l .oversize
  else s.deframe l (.body len [])

/-- A byte without a stop-bit error, as the deframer's state takes it (R61 to R63). -/
def State.receiveByte (s : State) (l : Link) (b : Byte) : State :=
  match (s.link l).deframer with
  | .hunt => if b = 0xA3 then s.deframe l (.length none) else s
  | .length none => s.deframe l (.length (some b))
  | .length (some first) => s.endLength l first b
  | .body len got =>
    let all := got ++ [b]
    if all.length < len then s.deframe l (.body len all) else s.deframe l (.check all none)
  | .check got none => s.deframe l (.check got (some b))
  | .check got (some first) => s.endFrame l got first b

/-! ### The reply transmitter -/

/-- The last byte of the head reply has been sent: the frame leaves the queue and is counted, a rate change that waited for
it is applied, and the next frame begins if the link is UP; a waiting READ sees a free place (R70, R73, R74; log 19). -/
def State.replyGone (s : State) (l : Link) : State :=
  let c := s.link l
  let s1 := (s.setLink l { c with replies := c.replies.drop 1, sending := none }).bump (.link l .repliesSent)
  let s2 := match c.rateChange with
    | none => s1
    | some rc =>
      if rc.after ≤ 1 then s1.applyRate l rc.code
      else s1.setLink l { s1.link l with rateChange := some { rc with after := rc.after - 1 } }
  let s3 := s2.setLink l (s2.link l).beginReply
  match s3.engine with
  | .reading op => if op.handed.link = l then { s3 with engine := .reading { op with stall := 0 } } else s3
  | _ => s3

/-! ### The commands -/

/-- LEAD_BYTE: a byte of value 0xA3 (R61). -/
def execLeadByte (l : Link) (s : State) : Host.Outcome State Fault Refusal :=
  .next (s.receiveByte l 0xA3)

/-- FRAME_BYTE: a byte of a frame attempt (R62, R63). -/
def execFrameByte (l : Link) (b : Byte) (s : State) : Host.Outcome State Fault Refusal :=
  .next (s.receiveByte l b)

/-- LENGTH_END: the second length byte (R62). -/
def execLengthEnd (l : Link) (b : Byte) (s : State) : Host.Outcome State Fault Refusal :=
  .next (s.receiveByte l b)

/-- FRAME_END: the second check byte (R63). -/
def execFrameEnd (l : Link) (b : Byte) (s : State) : Host.Outcome State Fault Refusal :=
  .next (s.receiveByte l b)

/-- BAD_CHAR: a byte with a stop-bit error; discarded in HUNT (R61, R64). -/
def execBadChar (l : Link) (s : State) : Host.Outcome State Fault Refusal :=
  .next (match (s.link l).deframer with
    | .hunt => s
    | _ => s.endAttempt l .badChar)

/-- GAP: the gap timer expires inside a frame attempt (R65). -/
def execGap (l : Link) (s : State) : Host.Outcome State Fault Refusal :=
  .next (if s.gapDue l then s.endAttempt l .gap else s)

/-- SILENCE_TIMEOUT (R67). -/
def execSilenceTimeout (l : Link) (s : State) : Host.Outcome State Fault Refusal :=
  .next (s.silenceCheck l)

/-- REPLY_SENT: of no effect while no frame is being sent (R70). -/
def execReplySent (l : Link) (s : State) : Host.Outcome State Fault Refusal :=
  .next (if (s.link l).sending.isSome then s.replyGone l else s)

end Sys2Proof.Machine
end

