-- ==== Sys2Proof/Machine/SiteTime.lean ====
section
/-! DEFINITION. The site time unit (01): the reference and PPS monitors, the TOD receiver, the clock states, the step with
what it brings due, and the second boundary. -/

namespace Sys2Proof.Machine

/-! ### Losing a reference (R11, R13, R14) -/

/-- The unit enters HOLDOVER from LOCKED: U is one tick, the outlier and quality-0 runs are cleared (R13). -/
def State.holdoverFromLocked (s : State) : State :=
  { s with time := { s.time with u := 1000, outliers := 0, qualityZero := 0 } }.setClockState .holdover

/-- What a REF_LOST or a PPS missing event does to the clock state (R6, R11, R13, R14). -/
def State.referenceLost (s : State) : State :=
  match s.time.state with
  | .unset => s
  | .acquiring true => { s with time := { s.time with run := 0, stepPending := false } }.setClockState .holdover
  | .acquiring false => { s with time := { s.time with run := 0, stepPending := false } }
  | .locked => s.holdoverFromLocked
  | .holdover => s

/-- The REF_LOST event is due (R1). -/
def State.refLostDue (s : State) : Bool := s.time.refPresent && decide (Config.refLostPeriods ≤ s.time.refQuiet)

/-- The REF_BACK event is due (R1). -/
def State.refBackDue (s : State) : Bool :=
  !s.time.refPresent && (match s.time.refTiming with
    | some n => decide (Config.refBackPeriods ≤ n)
    | none => false)

/-- The PPS missing event is due (R2). -/
def State.ppsMissingDue (s : State) : Bool :=
  match s.time.pps with
  | some n => decide (Config.ppsMissingTicks ≤ n)
  | none => false

/-! ### The TOD receiver (R3) -/

/-- An ignored TOD message: counted, and the receiver hunts (R3). -/
def State.todIgnored (s : State) : State :=
  { s with time := { s.time with tod := none } }.bump .todFailures

/-- A good message goes at once to the quality-0 run (R3, R13). -/
def State.qualityRun (s : State) (fix : Bool) : State :=
  if fix then { s with time := { s.time with qualityZero := 0 } }
  else if s.time.state = .locked then
    if 3 ≤ s.time.qualityZero + 1 then s.holdoverFromLocked
    else { s with time := { s.time with qualityZero := s.time.qualityZero + 1 } }
  else s

/-- A good TOD message becomes the message for the coming edge (R3). -/
def State.todGood (s : State) (second : Word32) (fix : Bool) : State :=
  { s with time := { s.time with tod := none, coming := some { second := second, fix := fix } } }.qualityRun fix

/-- A complete TOD message, its six bytes after the lead (R3, R177). -/
def State.todComplete (s : State) (bytes : List Byte) (faulty : Bool) : State :=
  let sum := BitVec.ofNat 8 ((bytes.take 5).foldl (fun v b => v + b.toNat) 0)
  if faulty = false ∧ bytes.getD 5 0 = sum then
    s.todGood (BitVec.ofNat 32 (natAt bytes 0 4)) (decide (bytes.getD 4 0 = 0x01))
  else s.todIgnored

/-- One byte on the TOD line (R3; log 14). -/
def State.todByte (s : State) (b : Byte) (stopError : Bool) : State :=
  match s.time.tod with
  | none =>
    if b = 0xD7 then { s with time := { s.time with tod := some { bytes := [], faulty := stopError } } } else s
  | some p =>
    let bytes := p.bytes ++ [b]
    let faulty := p.faulty || stopError
    if bytes.length < 6 then { s with time := { s.time with tod := some { bytes := bytes, faulty := faulty } } }
    else s.todComplete bytes faulty

/-! ### The edge (R5) -/

/-- The edge offset e (R5). -/
def edgeOffset (c : Instant) : Int :=
  if c.tick.val < 5000000 then (c.tick.val : Int) else (c.tick.val : Int) - (Config.ticksPerSecond : Int)

/-- The edge second (R5). -/
def edgeSecond (c : Instant) : Word32 := if c.tick.val < 5000000 then c.sec else c.sec + 1

/-- The TOD second matches (R5). -/
def TimeUnit.todMatches (t : TimeUnit) : Bool :=
  match t.coming with
  | some m => decide (m.second = edgeSecond t.clock)
  | none => false

/-- The edge spacing is good (R5). -/
def TimeUnit.spacingGood (t : TimeUnit) : Bool :=
  match t.spacing with
  | some n => decide (9999999 ≤ n) && decide (n ≤ 10000001)
  | none => false

/-- REF is judged present and the edge has a TOD message with quality 1 (R6, R7, R14). -/
def TimeUnit.edgeFixed (t : TimeUnit) : Bool :=
  t.refPresent && (match t.coming with
    | some m => m.fix
    | none => false)

/-- The edge's TOD second is the previous one plus 1 (R7). -/
def TimeUnit.consecutive (t : TimeUnit) : Bool :=
  match t.coming, t.previous with
  | some m, some p => decide (m.second = p + 1)
  | _, _ => false

/-- The edge extends the consistency run (R7). -/
def TimeUnit.edgeExtends (t : TimeUnit) : Bool :=
  decide (1 ≤ t.run) && t.edgeFixed && t.consecutive && t.spacingGood

/-- The offset is within one tick and the TOD second matches (R8, R12). -/
def TimeUnit.edgeClean (t : TimeUnit) : Bool :=
  decide ((edgeOffset t.clock).natAbs ≤ 1) && t.todMatches

/-- What every edge does to the unit's own bookkeeping: a TOD message in progress is ignored, the message for the edge is
consumed, the PPS count and the spacing restart (R2, R3, R5). The clock state's own effect comes besides. -/
def State.edgeTaken (s : State) : State :=
  let s1 := if s.time.tod.isSome then s.todIgnored else s
  { s1 with time := { s1.time with
    previous := match s1.time.coming with
      | some m => some m.second
      | none => s1.time.previous
    coming := none
    pps := some 0
    spacing := if s1.time.refPresent then some 0 else none } }

/-! ### Entry to LOCKED and the step (R8 to R10, R121) -/

/-- The unit enters LOCKED (R8). -/
def State.enterLocked (s : State) : State :=
  { s with time := { s.time with
    u := 0
    run := 0
    outliers := 0
    qualityZero := 0
    stepPending := false } }.setClockState .locked

/-- The first pass over one record of the launch queue at a step from P to Q (R121). The record is decided when it is then
the head READY record and the sequencer can decide it, so after a decision that made one record SHADOW the next is decided
in its own turn (R101, R139; log 27). -/
def stepRecord (p q : Instant) (s : State) (i : Slot) : State :=
  let s1 : State := match s.record i with
    | some r =>
      if r.state = .assembling ∧ r.late = false ∧ dueAtStep p q r.deadline = true then s.deadlineActs i else s
    | none => s
  let s2 : State := match s1.record i with
    | some r =>
      if r.state = .assembling ∧ r.late = true ∧ dueAtStep p q r.keptEnd = true then s1.becomeShadow i .droppedLate
      else s1
    | none => s1
  match s2.record i with
  | some r =>
    if r.state = .ready then
      if r.keptLaunch.passed q then s2.becomeShadow i .droppedLate
      else if dueAtStep p q r.keptKeyUp = true ∧ s2.keyUpDue i = true then s2.decideKeyUp i
      else s2
    else s2
  | none => s2

/-- The SHADOW records whose retirement instants are reached, in the order of their retirements at a step (R121). -/
def State.retiringSlots (s : State) : List Slot :=
  let items := allSlots.filterMap (fun i => match s.record i with
    | some r =>
      if s.retirementDue i then some ⟨r.widenedEnd s.store.settings.guard, r.number, i⟩ else none
    | none => none)
  (orderItems Config.slots items).map (·.slot)

/-- What a step from P to Q brings due in the batch table, in one pass: the launch queue as it stood just before the step,
then the retirements; a step back brings nothing due (R10, R121). -/
def State.stepPass (s : State) (p q : Instant) : State :=
  if q.diff p ≤ 0 then s
  else
    let s1 := s.launchQueue.foldl (stepRecord p q) s
    s1.retiringSlots.foldl State.retireShadow s1

/-- The step: the clock is set to the TOD second at tick 0 and the unit enters LOCKED; the switch whose instant is then
reached is taken, and the batch table takes what came due (R9, R10, R34, R121). -/
def State.stepClock (s : State) (second : Word32) : State :=
  let p := s.time.clock
  let q : Instant := ⟨second, 0⟩
  let s1 := { s with time := { s.time with clock := q } }.enterLocked
  let s2 := if s1.switchDue then s1.takeSwitch else s1
  s2.stepPass p q

/-! ### The edge in each clock state -/

/-- An edge in ACQUIRING: the consistency run, and at the acquisition count the clean entry, the step or the step-pending
flag (R7 to R9). `t` is the unit as the edge found it. DESIGN CHOICE (log 13): a run of 0 is never tested. It is below every
count R7 gives, 2 to 10, but not below a count of 0, which a recalled copy can put in place and on which R7 is silent.
Unsafe. -/
def State.edgeAcquiring (s : State) (t : TimeUnit) : State :=
  let run := if t.edgeExtends then t.run + 1 else if t.edgeFixed then 1 else 0
  let pendingStep := if t.edgeExtends then s.time.stepPending else false
  let s1 := { s with time := { s.time with run := run, stepPending := pendingStep } }
  match t.coming with
  | none => s1
  | some m =>
    if run = 0 ∨ run < s.store.settings.acqCount then s1
    else if t.edgeClean then s1.enterLocked
    else if s.keying.state = .idle then s1.stepClock m.second
    else { s1 with time := { s1.time with stepPending := true } }

/-- An edge in LOCKED: the outlier run, and on the third outlier ACQUIRING with an estimate (R12). -/
def State.edgeLocked (s : State) (t : TimeUnit) : State :=
  if t.edgeClean then { s with time := { s.time with outliers := 0 } }
  else if 3 ≤ t.outliers + 1 then
    { s with time := { s.time with
      u := min ((edgeOffset t.clock).natAbs * 1000) Config.maxU
      run := 0
      outliers := 0 } }.setClockState (.acquiring true)
  else { s with time := { s.time with outliers := t.outliers + 1 } }

/-- An edge that starts acquisition, from UNSET or HOLDOVER (R6, R14). -/
def State.edgeStarts (s : State) (t : TimeUnit) (hasEstimate : Bool) : State :=
  if t.edgeFixed then { s with time := { s.time with run := 1 } }.setClockState (.acquiring hasEstimate) else s

/-- A PPS edge, judged in the clock state (R2, R5 to R9, R12, R14). -/
def State.ppsEdge (s : State) : State :=
  let t := s.time
  let s1 := s.edgeTaken
  match t.state with
  | .unset => s1.edgeStarts t false
  | .acquiring _ => s1.edgeAcquiring t
  | .locked => s1.edgeLocked t
  | .holdover => s1.edgeStarts t true

/-! ### The second boundary (R15) -/

/-- U after a second boundary: grown by the holdover rate, saturating, when the unit was in HOLDOVER or in ACQUIRING with
an estimate at the last tick of the second that is ending (R15). -/
def TimeUnit.grownU (t : TimeUnit) (rate : Nat) : Nat :=
  match t.state with
  | .holdover => min (t.u + rate) Config.maxU
  | .acquiring true => min (t.u + rate) Config.maxU
  | .acquiring false => t.u
  | .unset => t.u
  | .locked => t.u

/-- The advance from tick 9 999 999 to tick 0 of the next second (R4, R15). -/
def State.crossSecond (s : State) : State :=
  { s with time := { s.time with u := s.time.grownU s.store.settings.holdoverRate } }.clockTick

/-! ### The commands -/

/-- REF_LOST (R1, R4, R6, R11, R13, R14). -/
def execRefLost (s : State) : Host.Outcome State Fault Refusal :=
  .next (if s.refLostDue then
      { s with time := { s.time with refPresent := false, refTiming := none, spacing := none } }.referenceLost
    else s)

/-- REF_BACK: the count source alone changes (R1, R4). -/
def execRefBack (s : State) : Host.Outcome State Fault Refusal :=
  .next (if s.refBackDue then { s with time := { s.time with refPresent := true, refTiming := none } } else s)

/-- PPS_EDGE (R2, R5). -/
def execPpsEdge (s : State) : Host.Outcome State Fault Refusal := .next s.ppsEdge

/-- PPS_MISSING: one event until the next edge (R2). -/
def execPpsMissing (s : State) : Host.Outcome State Fault Refusal :=
  .next (if s.ppsMissingDue then { s with time := { s.time with pps := none } }.referenceLost else s)

/-- TOD_LEAD_BYTE: a 0xD7 byte (R3). -/
def execTodLeadByte (stopError : Bool) (s : State) : Host.Outcome State Fault Refusal :=
  .next (s.todByte 0xD7 stopError)

/-- TOD_MESSAGE: the six bytes that complete a message, as the receiver takes them (R3). -/
def execTodMessage (second : Word32) (quality check : Byte) (faults : BitVec 6) (s : State) :
    Host.Outcome State Fault Refusal :=
  .next ((bytesOf 4 second.toNat ++ [quality, check]).zipIdx.foldl
    (fun s' bi => s'.todByte bi.1 (faults.getLsbD bi.2)) s)

/-- SECOND_BOUNDARY: of no effect at any tick but the last of a second (R4, R15). DESIGN CHOICE (log 26): the command is the
advance alone, and the LO cycle or REF edge that carries it in the part is not counted by the reference monitor or the timers
on LO. -/
def execSecondBoundary (s : State) : Host.Outcome State Fault Refusal :=
  .next (if s.time.clock.tick.val + 1 = Config.ticksPerSecond then s.crossSecond else s)

end Sys2Proof.Machine
end

