-- ==== Sys2Proof/Machine/Restarts.lean ====
section
/-! DEFINITION. The cold start and the warm restart, gathered from every chapter. -/

namespace Sys2Proof.Machine

/-- The nonvolatile copy a cold start finds: one cut short during a STORE's write is in doubt (R38, R154). -/
def State.copyFound (s : State) : NvCopy :=
  match s.engine with
  | .storing op => mixedCopy s.free s.store.nv op.snapshot
  | _ => s.store.nv

/-- The profile store a cold start makes out of the copy it finds: the recall, or the factory load (R23, R40). -/
def coldStore (nv : NvCopy) : ProfileStore :=
  match readCopy nv with
  | some (settings, profiles, active) =>
    { profiles := profiles, settings := settings, active := active, pending := none, nv := nv, nvFault := false }
  | none =>
    { profiles := Vector.replicate 4 factoryProfile, settings := defaultSettings, active := 0, pending := none, nv := nv,
      nvFault := true }

/-- A cold start (R18, R40, R76, R78, R105, R122, R152, R154, R168, R172, R176). The contents of the blocks are of no
account and stay; the TXRDY pin is the transmitter's. -/
def State.coldStart (s : State) : State :=
  let store := coldStore s.copyFound
  { time := coldTime
    store := store
    linkA := coldLink store.settings.rateA
    linkB := coldLink store.settings.rateB
    arbiter := { occupied := false, runCount := 0, runLink := .a }
    symbols := { s.symbols with free := fullFreeList }
    table := Vector.replicate Config.slots none
    keying := idleSequencer s.keying.txrdy
    pacer := idlePacer
    engine := .free
    restartCalled := false
    history := []
    counters := Vector.replicate Config.counters 0
    latches := Alarm.clock.bit ||| Alarm.linkA.bit ||| Alarm.linkB.bit ||| (if store.nvFault then Alarm.nv.bit else 0)
    free := s.free + 1
    pending := s.pending }

/-- A warm restart, by the table of R167. -/
def State.warmRestart (s : State) : State :=
  { s with
    linkA := { s.linkA with buffers := [] }
    linkB := { s.linkB with buffers := [] }
    arbiter := { s.arbiter with occupied := false, runCount := 0 }
    symbols := { s.symbols with free := fullFreeList }
    table := Vector.replicate Config.slots none
    keying := idleSequencer s.keying.txrdy
    pacer := idlePacer
    engine := .free
    restartCalled := false
    history := [] }

/-- COLD_START (R18). -/
def execColdStart (s : State) : Host.Outcome State Fault Refusal := .next s.coldStart

/-- WARM_RESTART: the event that follows a RESTART carried out, which had found the engine free (R167). With no RESTART
carried out it has no cause and changes nothing (log 3). DESIGN CHOICE (log 42): a call that finds the engine busy is let
go, so that a warm restart never interrupts a STORE (R41). -/
def execWarmRestart (s : State) : Host.Outcome State Fault Refusal :=
  .next (if s.restartCalled then (if s.busy then { s with restartCalled := false } else s.warmRestart) else s)

end Sys2Proof.Machine
end

