-- ==== Sys2Proof/Machine/Cycle.lean ====
section
/-! DEFINITION. What the part does when no command waits: the event that is due, or one beat of its oscillators (log 1).
The manual's either-order is a free choice among the events due at one instant (log 6, log 29). -/

namespace Sys2Proof.Machine

/-! ### The timers on LO (R1, R37, R60, R65, R67, R72) -/

/-- The reference monitor through one beat: the LO cycle is counted into the gap, then the edge, if one arrives, ends the
gap. While REF is judged absent the timing begins at 0 with the first edge, and starts again at the edge after a gap of more
than 20 LO periods (R1). -/
def TimeUnit.monitorRef (t : TimeUnit) (lo ref : Bool) : TimeUnit :=
  let beats := if lo then 1 else 0
  let gap := t.refQuiet + beats
  let running := if Config.refLostPeriods < gap then none else t.refTiming.map (· + beats)
  { t with
    refQuiet := if ref then 0 else gap
    refTiming := if t.refPresent then none else if ref then some (running.getD 0) else running }

/-- The timers of a link through one LO cycle: the gap timer runs while the line is idle, the silence timer while the link
is UP (R65, R67; log 17). -/
def CarriageLink.beat (c : CarriageLink) (lineIdle : Bool) : CarriageLink :=
  { c with
    gapTimer := if lineIdle then c.gapTimer.map (fun g => { g with elapsed := g.elapsed + 1 }) else c.gapTimer
    silence := if c.up then c.silence + 1 else c.silence }

/-- The timer of the operation in progress through one LO cycle: a STORE's write, or the stall timer of a READ that waits
for a place (R37, R72). -/
def State.beatEngine (s : State) : Engine :=
  match s.engine with
  | .free => .free
  | .storing op => .storing { op with elapsed := op.elapsed + 1 }
  | .reading op => if s.hasPlace op.handed.link then .reading op else .reading { op with stall := op.stall + 1 }

/-- One beat of the timers: an LO cycle, a REF edge, both or neither. -/
def State.beatTimers (s : State) (lo ref : Bool) : State :=
  let s1 := { s with time := s.time.monitorRef lo ref }
  if lo then
    { s1 with
      linkA := s1.linkA.beat (Config.lineIdle s.free false)
      linkB := s1.linkB.beat (Config.lineIdle s.free true)
      engine := s1.beatEngine }
  else s1

/-- The site clock advances: on a REF edge while REF is judged present, on an LO cycle while it is judged absent (R4). -/
def TimeUnit.clockAdvances (t : TimeUnit) (lo ref : Bool) : Bool := if t.refPresent then ref else lo

/-- One advance of the site clock, a second boundary at the last tick of a second (R4, R15). -/
def State.advanceClock (s : State) : State :=
  if s.time.clock.tick.val + 1 = Config.ticksPerSecond then s.crossSecond else s.clockTick

/-- What the outside does to the part of its own accord in a beat: TXRDY may rise, a stored byte may be disturbed
(R138, R104; log 6). -/
def State.outsideBeat (s : State) (n : Nat) : State :=
  let s1 := { s with keying := { s.keying with txrdy := s.keying.txrdy || Config.txrdyRises n } }
  match Config.disturbance n with
  | none => s1
  | some (a, v) => { s1 with symbols := { s1.symbols with memory := s1.symbols.memory.write a.val v } }

/-- One beat of the oscillators (log 1). -/
def State.beat (s : State) : State :=
  let n := s.free
  let lo := Config.loCycle n
  let ref := Config.refEdge n
  let s1 := s.beatTimers lo ref
  let s2 := if s.time.clockAdvances lo ref then s1.advanceClock else s1
  { s2.outsideBeat n with free := n + 1 }

/-! ### What is due -/

/-- One command when a condition holds. -/
def dueIf (p : Bool) (c : Instr) : List Instr := if p then [c] else []

/-- The reply of a link is being sent, and its last byte goes out now (R70). -/
def State.replyDue (s : State) (l : Link) : Bool :=
  (s.link l).sending.isSome && Config.replyEnds s.free (decide (l = .b))

/-- A STORE's write and verify end, at a free moment within 400 ms (R37). -/
def State.storeDue (s : State) : Bool :=
  match s.engine with
  | .storing op => Config.storeEnds s.free || decide (Config.storePeriods ≤ op.elapsed)
  | _ => false

/-- The events the manual puts before any other of their instant, when no command waits: the warm restart a RESTART called
for, then the drop of a READY record whose launch has passed (R144, R167; log 29). DESIGN CHOICE (log 29): among several READY
records whose kept launches are passed at one instant the manual gives no order, which fixes the order of their blocks on the
free list, and a free value chooses. The events that follow the one taken stand at the front of the queue (log 42). -/
def State.firstDue (s : State) : List Instr :=
  if s.restartCalled then [.warmRestart]
  else (allSlots.filter s.launchMissed).map Instr.missedLaunch

/-- The events due now, in no order the manual fixes. -/
def State.dueEvents (s : State) : List Instr :=
  dueIf s.switchDue .switchEvent
    ++ dueIf s.refLostDue .refLost ++ dueIf s.refBackDue .refBack ++ dueIf s.ppsMissingDue .ppsMissing
    ++ dueIf (s.gapDue .a) (.gap .a) ++ dueIf (s.gapDue .b) (.gap .b)
    ++ dueIf (decide (s.linkA.up ∧ s.store.settings.silence * Config.periodsPerSecond ≤ s.linkA.silence))
      (.silenceTimeout .a)
    ++ dueIf (decide (s.linkB.up ∧ s.store.settings.silence * Config.periodsPerSecond ≤ s.linkB.silence))
      (.silenceTimeout .b)
    ++ dueIf (s.arbiter.occupied && Config.admissionFrees s.free) .admissionFree
    ++ (allSlots.filter s.deadlineDue).map Instr.deadline
    ++ (allSlots.filter s.keptEndDue).map Instr.keptEndWhileLate
    ++ (allSlots.filter s.retirementDue).map Instr.retirement
    ++ (allSlots.filter s.keyUpDue).map Instr.keyUp
    ++ dueIf s.launchDue.isSome .launch ++ dueIf s.carryDue .pacerCarry ++ dueIf s.blockWanted.isSome .blockRead
    ++ dueIf s.tailDone .tailEnd
    ++ dueIf s.readFrameDue .readFramePlaced ++ dueIf s.readStallDue .readStall
    ++ dueIf s.storeDue (.storeComplete (Config.storeVerifies s.free))
    ++ dueIf (s.replyDue .a) (.replySent .a) ++ dueIf (s.replyDue .b) (.replySent .b)

/-- One of a list, chosen by a free value; none of an empty list. -/
def chooseDue (n : Nat) (cs : List Instr) : Option Instr := cs[Config.dueOrder n % cs.length]?

/-- The event taken now when no command waits, chosen among those of the first rank that has any; none when nothing is due
(log 29). -/
def State.nextDue (s : State) : Option Instr :=
  chooseDue s.free (if s.firstDue.isEmpty then s.dueEvents else s.firstDue)

end Sys2Proof.Machine
end

