-- ==== Sys2Proof/Machine/Dispatch.lean ====
section
/-! DEFINITION. The meaning of each command: one arm per row of the table. -/

namespace Sys2Proof.Machine

def exec (i : Instr) (s : State) : Host.Outcome State Fault Refusal :=
  match i with
  -- site time
  | .coldStart => Sys2Proof.Machine.execColdStart s
  | .refLost => Sys2Proof.Machine.execRefLost s
  | .refBack => Sys2Proof.Machine.execRefBack s
  | .ppsEdge => Sys2Proof.Machine.execPpsEdge s
  | .ppsMissing => Sys2Proof.Machine.execPpsMissing s
  | .todLeadByte stopError => Sys2Proof.Machine.execTodLeadByte stopError s
  | .todMessage second quality check faults => Sys2Proof.Machine.execTodMessage second quality check faults s
  | .secondBoundary => Sys2Proof.Machine.execSecondBoundary s
  | .switchEvent => Sys2Proof.Machine.execSwitchEvent s
  -- carriage links
  | .leadByte l => Sys2Proof.Machine.execLeadByte l s
  | .frameByte l b => Sys2Proof.Machine.execFrameByte l b s
  | .lengthEnd l b => Sys2Proof.Machine.execLengthEnd l b s
  | .frameEnd l b => Sys2Proof.Machine.execFrameEnd l b s
  | .badChar l => Sys2Proof.Machine.execBadChar l s
  | .gap l => Sys2Proof.Machine.execGap l s
  | .silenceTimeout l => Sys2Proof.Machine.execSilenceTimeout l s
  | .admissionFree => Sys2Proof.Machine.execAdmissionFree s
  -- the batch table
  | .deadline slot => Sys2Proof.Machine.execDeadline slot s
  | .keptEndWhileLate slot => Sys2Proof.Machine.execKeptEndWhileLate slot s
  | .keyUp slot => Sys2Proof.Machine.execKeyUp slot s
  | .missedLaunch slot => Sys2Proof.Machine.execMissedLaunch slot s
  | .retirement slot => Sys2Proof.Machine.execRetirement slot s
  -- keying
  | .launch => Sys2Proof.Machine.execLaunch s
  | .pacerCarry => Sys2Proof.Machine.execPacerCarry s
  | .blockRead => Sys2Proof.Machine.execBlockRead s
  | .tailEnd => Sys2Proof.Machine.execTailEnd s
  | .txrdyFall => Sys2Proof.Machine.execTxrdyFall s
  -- management requests
  | .status h params => Sys2Proof.Machine.execStatus h params s
  | .read h params => Sys2Proof.Machine.execRead h params s
  | .write h params => Sys2Proof.Machine.execWrite h params s
  | .digest h params => Sys2Proof.Machine.execDigest h params s
  | .switch h params => Sys2Proof.Machine.execSwitch h params s
  | .cancelSwitch h params => Sys2Proof.Machine.execCancelSwitch h params s
  | .store h params => Sys2Proof.Machine.execStore h params s
  | .recall h params => Sys2Proof.Machine.execRecall h params s
  | .abort h params => Sys2Proof.Machine.execAbort h params s
  | .ackAlarms h params => Sys2Proof.Machine.execAckAlarms h params s
  | .clearCounters h params => Sys2Proof.Machine.execClearCounters h params s
  | .setLinkRate h params => Sys2Proof.Machine.execSetLinkRate h params s
  | .restart h params => Sys2Proof.Machine.execRestart h params s
  | .notUnderstood h code params => Sys2Proof.Machine.execNotUnderstood h code params s
  | .storeComplete verified => Sys2Proof.Machine.execStoreComplete verified s
  | .readFramePlaced => Sys2Proof.Machine.execReadFramePlaced s
  | .readStall => Sys2Proof.Machine.execReadStall s
  | .replySent l => Sys2Proof.Machine.execReplySent l s
  | .warmRestart => Sys2Proof.Machine.execWarmRestart s

end Sys2Proof.Machine
end

