-- ==== Sys2Proof/Machine/Step.lean ====
section
/-! DEFINITION. One step: the command at the front of the queue, or, on an empty queue, the event that is due or one beat
of the oscillators. -/

namespace Sys2Proof.Machine

/-- A step on an empty queue (log 1). -/
def idleStep (s : State) : Host.Outcome State Fault Refusal :=
  match s.nextDue with
  | some c => exec c { s with free := s.free + 1 }
  | none => .next s.beat

/-- A step: the command at the front of the queue is taken and run with the queue's rest. -/
def step (s : State) : Host.Outcome State Fault Refusal :=
  match s.pending with
  | c :: rest => exec c { s with pending := rest }
  | [] => idleStep s

/-- The state with the command that a word spells at the front of its queue; unchanged where the word spells none. -/
def State.withFetchWord (s : State) (nbits w : Nat) : State :=
  match decodeTableWord nbits w with
  | some c => { s with pending := c :: s.pending }
  | none => s

end Sys2Proof.Machine
end

