-- ==== Sys2Proof/Safety.lean ====
section
/-! DEFINITION. What counts as a sound state and a sound move, in the terms the claims use: the laws the manual states for
every moment of the part's life. -/

namespace Sys2Proof.Machine

/-! ### Laws of one state -/

/-- The block pool's memory stands in its one canonical form (log 8). -/
def MemoryCanonical (s : State) : Prop := s.symbols.memory.wf = true

/-- The batch numbers of the records, then of the history (R93). -/
def State.heldNumbers (s : State) : List Word16 := s.records.map (·.number) ++ s.history.map (·.number)

/-- No batch number appears more than once among the records and the launch history taken together (R93). -/
def NumbersDistinct (s : State) : Prop := s.heldNumbers.Nodup

/-- The block numbers in the record chains (R102). -/
def State.heldBlocks (s : State) : List Block := s.records.flatMap Record.blocks

/-- Each of the 1024 block numbers is held in exactly one place: once on the free list, or once in one chain of one record
(R102). With it, what keeps it so: an absent part holds no chain (R100). -/
structure BlocksConserved (s : State) : Prop where
  once : (s.symbols.free ++ s.heldBlocks).Perm fullFreeList
  absent : ∀ r ∈ s.records, ∀ i : Fin 16, r.parts.getLsbD i.val = false → r.chains.get i = []

/-- U is 0 throughout UNSET, ACQUIRING with no estimate and LOCKED, and never above its saturation (R15); a step is pending
in ACQUIRING alone (R9); in UNSET the outlier and quality-0 runs are clear (R6). -/
structure UncertaintySound (s : State) : Prop where
  zero : s.time.state = .unset ∨ s.time.state = .acquiring false ∨ s.time.state = .locked → s.time.u = 0
  saturated : s.time.u ≤ Config.maxU
  stepping : s.time.stepPending = true → ∃ e, s.time.state = .acquiring e
  unset : s.time.state = .unset → s.time.outliers = 0 ∧ s.time.qualityZero = 0

/-- A record on which the sequencer is working (R107). -/
def Record.keyed (r : Record) : Prop := r.state = .keying ∨ r.state = .onAir

/-- The record in a slot is in a state. -/
def State.inState (s : State) (i : Slot) (c : RecordState) : Prop := ∃ r, s.record i = some r ∧ r.state = c

/-- The current and bridged record that each state of the sequencer has (R137, and the table of the sequencer's states). -/
def SequencerShape (s : State) : Prop :=
  match s.keying.state with
  | .idle => s.keying.current = none ∧ s.keying.bridged = none
  | .tail => s.keying.current = none ∧ s.keying.bridged = none
  | .lead => s.keying.bridged = none ∧ ∃ i, s.keying.current = some i ∧ s.inState i .keying
  | .symbols => s.keying.bridged = none ∧ ∃ i, s.keying.current = some i ∧ s.inState i .onAir
  | .hold =>
    (s.keying.current = none ∧ s.keying.bridged.isSome = true)
      ∨ (s.keying.bridged = none ∧ ∃ i, s.keying.current = some i ∧ s.inState i .keying)

/-- At most one record is KEYING or ON_AIR, and it is the current record of the sequencer, in a state of the sequencer that
has one (R107, R137). -/
structure SequencerTied (s : State) : Prop where
  current : ∀ i r, s.record i = some r → r.keyed → s.keying.current = some i
  shape : SequencerShape s

/-- What the transmitter port shows: 0 in IDLE, and in LEAD, HOLD and TAIL the rest level of the rest row (R138, and the
table of the sequencer's states). -/
structure PortSound (s : State) : Prop where
  idle : s.keying.state = .idle → s.keying.mod = 0
  rest : s.keying.state = .lead ∨ s.keying.state = .hold ∨ s.keying.state = .tail →
    ∃ row, s.keying.restRow = some row ∧ s.keying.mod = row.rest

/-- A SHADOW record carries an outcome and holds no blocks, and no other record carries one (R100, R106, R107). -/
structure ShadowSound (s : State) : Prop where
  outcome : ∀ r ∈ s.records, r.shadow.isSome = true ↔ r.state = .shadow
  blocks : ∀ r ∈ s.records, r.state = .shadow → r.chains = Vector.replicate 16 []

/-- While no switch is pending, the dependent count is 0 (R28). -/
def DependentsNeedSwitch (s : State) : Prop := s.store.pending = none → ∀ r ∈ s.records, r.dependent = false

/-- The bounded buffers of the part: the frame buffers, the reply queues and the launch history (R66, R70, R168). -/
structure BuffersBounded (s : State) : Prop where
  frames : ∀ l, (s.link l).buffers.length ≤ Config.frameBuffers
  replies : ∀ l, (s.link l).replies.length ≤ Config.replyPlaces
  history : s.history.length ≤ Config.historySize

/-! ### Ranges -/

/-- A settings record with every field in its range, the guard not above the setup margin (R24, R25). -/
structure Settings.InRange (t : Settings) : Prop where
  siteAddress : t.siteAddress ≠ 0 ∧ t.siteAddress ≠ 0xFFFF
  groups : ∀ i, t.groups.get i ≠ 0xFFFF
  rates : ∀ l, 1 ≤ t.rate l ∧ t.rate l ≤ 7
  preferred : t.preferred.listed = true
  rotation : 1 ≤ t.rotation ∧ t.rotation ≤ 8
  gapLimit : 1 ≤ t.gapLimit ∧ t.gapLimit ≤ 255
  silence : 1 ≤ t.silence ∧ t.silence ≤ 255
  setupMargin : 1000 ≤ t.setupMargin ∧ t.setupMargin ≤ 1000000
  maxLead : 1 ≤ t.maxLead ∧ t.maxLead ≤ 120
  guard : t.guard ≤ 100000 ∧ t.guard ≤ t.setupMargin
  bridgeLimit : t.bridgeLimit ≤ 10000000
  acqCount : 2 ≤ t.acqCount ∧ t.acqCount ≤ 10
  holdoverRate : 1 ≤ t.holdoverRate ∧ t.holdoverRate ≤ 100000

/-- A profile offset in its range (R20 to R22). -/
def OffsetInRange (v : Int) : Prop := -1000000 ≤ v ∧ v ≤ 1000000

/-- A mode row with every field in its range (R21). -/
structure ModeRow.InRange (m : ModeRow) : Prop where
  rate : m.rate = 0 ∨ (100 ≤ m.rate ∧ m.rate ≤ 9600)
  offset : OffsetInRange m.offset
  keyLead : m.keyLead ≤ 2000000
  tail : m.tail ≤ 1000000
  joinMin : 1 ≤ m.joinMin ∧ m.joinMin ≤ 4096
  tolerance : m.tolerance ≤ 100000
  levelSet : m.levelSet.listed = true
  late : m.late.listed = true

/-- A zone row with both fields in range (R22). -/
structure ZoneRow.InRange (z : ZoneRow) : Prop where
  mode : z.mode.listed = true
  offset : OffsetInRange z.offset

/-- A profile with every field in its range (R20 to R22). -/
structure Profile.InRange (f : Profile) : Prop where
  siteOffset : OffsetInRange f.siteOffset
  modes : ∀ i, (f.modes.get i).InRange
  zones : ∀ i, (f.zones.get i).InRange

/-! ### Runs of received bytes -/

/-- The bytes of a run received on a link one after another, each an event of its own; none when one does not answer a
next state. -/
def receiveRun (l : Link) : List Byte → State → Option State
  | [], s => some s
  | b :: bs, s =>
    match exec (.frameByte l b) s with
    | .next t => receiveRun l bs t
    | .fault _ => none
    | .refused _ => none

/-! ### Laws of one move -/

/-- What a record keeps from one state to a later one while it holds its slot: the fields fixed at its creation, with a
range that only shrinks (R56, R106, R133) and a late mark that stays (R110). -/
structure Record.Grows (r r' : Record) : Prop where
  number : r'.number = r.number
  zone : r'.zone = r.zone
  mode : r'.mode = r.mode
  cls : r'.cls = r.cls
  tag : r'.tag = r.tag
  total : r'.total = r.total
  partCount : r'.partCount = r.partCount
  profileUsed : r'.profileUsed = r.profileUsed
  row : r'.row = r.row
  launch : r'.launch = r.launch
  inc : r'.inc = r.inc
  nominalEnd : r'.nominalEnd = r.nominalEnd
  first : r.j ≤ r'.j
  last : r'.k ≤ r.k
  late : r.late = true → r'.late = true
  joined : r.joined = true → r'.joined = true
  parts : r.parts &&& r'.parts = r.parts
  shadow : r.state = .shadow → r'.state = .shadow ∧ r'.shadow = r.shadow
  sent : r.sent ≤ r'.sent

/-- From one state to the next, a record that keeps its slot and its number keeps its creation and only shrinks. -/
def RecordsGrow (s t : State) : Prop :=
  ∀ i r r', s.record i = some r → t.record i = some r' → r'.number = r.number → r.Grows r'

/-! ### Commands that a law names -/

/-- The command at the front of the queue is a byte on a link. -/
def State.byteComes (s : State) (l : Link) (b : Byte) : Prop :=
  s.pending.head? = some (.frameEnd l b) ∨ s.pending.head? = some (.frameByte l b)
    ∨ s.pending.head? = some (.lengthEnd l b) ∨ (b = 0xA3 ∧ s.pending.head? = some (.leadByte l))

/-- A frame the next step may take: one held in a buffer, when the command at the front ends a frame or frees the admission
engine, or when none waits; or the one whose second check byte that command is. -/
def State.mayTake (s : State) (body : List Byte) : Prop :=
  ((∃ l, body ∈ (s.link l).buffers) ∧ (s.pending = [] ∨ s.pending.head? = some .admissionFree ∨ ∃ l b, s.byteComes l b))
    ∨ ∃ l b f, s.byteComes l b ∧ (s.link l).deframer = .check body (some f)

/-- The next step may carry out a CLEAR_COUNTERS: with the engine free, by the command, or out of a MANAGE frame with its
code (R78, R155, R165). -/
def State.clearComes (s : State) : Prop :=
  s.engine = .free
    ∧ ((∃ h params, s.pending.head? = some (.clearCounters h params))
      ∨ (∃ h params, s.pending.head? = some (.notUnderstood h 0x0B params))
      ∨ ∃ body, s.mayTake body ∧ body.getD 0 0 = 0x6C ∧ body.getD 4 0 = 0x0B)

end Sys2Proof.Machine
end

