-- ==== Sys2Proof/Certificates/Slice0/Obligations.lean ====
section
/-! DEFINITION. The statements for the provers. Each says what the part does, by the rules its docstring cites. -/

section Obligations

open Sys2Proof Sys2Proof.Machine

/-! ### The queue and the idle step -/

/-- A step takes the command at the front of the queue and runs it with the queue's rest, and no step stops the part. -/
def Obligations.StepRunsTheFrontCommand : Prop :=
  (∀ (c : Instr) (s : State), step { s with pending := c :: s.pending } = exec c s)
    ∧ ∀ s : State, ∃ t, step s = .next t

/-- On an empty queue the step is the event that is due, the missed launches and the called restart before any other, or one
beat of the oscillators when nothing is due. The model's choice (log 1), and so is the missed launch taken where several are
(log 29). What is due: a READY record whose kept launch has passed (R113), and each event of the table whose cause holds,
each named here with it, no command else (R1, R2, R34, R37, R65, R67, R68, R70, R72, R103, R109, R112, R113, R115, R139,
R141, R142, R147); the moments the manual leaves open are free values (log 6). What one beat changes: the site clock by one
tick with what counts its advances, on REF or LO as REF is judged, the reference monitor (R1, R4, R15), on an LO cycle the
gap and silence timers and the timer of the STORE or the waiting READ in progress (R37, R65, R67, R72), and by free values
TXRDY, which may rise, and a byte of the block pool (R104, R138; log 6, log 17). -/
def Obligations.IdleStepTakesWhatIsDueOrBeats : Prop :=
  (∀ s : State, s.pending = [] →
    let missed := fun (i : Slot) => ∃ r, s.record i = some r ∧ r.state = .ready
      ∧ (r.launch.add (ticksOf r.inc r.j)).diff s.time.clock < 0
    (s.restartCalled = true → step s = exec .warmRestart { s with free := s.free + 1 })
      ∧ (s.restartCalled = false → ∀ i, missed i →
          ∃ j, missed j ∧ step s = exec (.missedLaunch j) { s with free := s.free + 1 })
      ∧ (s.restartCalled = false → (∀ i, ¬ missed i) → s.dueEvents ≠ [] →
          ∃ c ∈ s.dueEvents, step s = exec c { s with free := s.free + 1 })
      ∧ (s.restartCalled = false → (∀ i, ¬ missed i) → s.dueEvents = [] → step s = .next s.beat))
    ∧ (∀ (s : State) (c : Instr),
      let now := s.time.clock
      c ∈ s.dueEvents ↔
        (c = .switchEvent ∧ s.time.state ≠ .unset ∧ s.time.state ≠ .acquiring false
            ∧ ∃ p, s.store.pending = some p ∧ Instant.diff ⟨p.second, 0⟩ now ≤ 0)
          ∨ (c = .refLost ∧ s.time.refPresent = true ∧ 20 ≤ s.time.refQuiet)
          ∨ (c = .refBack ∧ s.time.refPresent = false ∧ ∃ n, s.time.refTiming = some n ∧ 1000000 ≤ n)
          ∨ (c = .ppsMissing ∧ ∃ n, s.time.pps = some n ∧ 15000000 ≤ n)
          ∨ (∃ l g, c = .gap l ∧ (s.link l).gapTimer = some g ∧ g.limit < g.elapsed)
          ∨ (∃ l, c = .silenceTimeout l ∧ (s.link l).up = true
            ∧ s.store.settings.silence * 10000000 ≤ (s.link l).silence)
          ∨ (c = .admissionFree ∧ s.arbiter.occupied = true ∧ Config.admissionFrees s.free = true)
          ∨ (∃ i r, s.record i = some r ∧
            ((c = .deadline i ∧ r.state = .assembling ∧ r.late = false ∧ r.deadline.diff now ≤ 0)
              ∨ (c = .keptEndWhileLate i ∧ r.state = .assembling ∧ r.late = true
                ∧ (r.launch.add (ticksOf r.inc r.k)).diff now ≤ 0)
              ∨ (c = .retirement i ∧ r.state = .shadow ∧ (r.nominalEnd.add s.store.settings.guard).diff now ≤ 0)
              ∨ (c = .keyUp i ∧ r.state = .ready ∧ r.keptKeyUp.diff now ≤ 0
                ∧ 0 ≤ (r.launch.add (ticksOf r.inc r.j)).diff now ∧ s.headReady = some i
                ∧ (s.keying.state = .idle ∨ s.keying.state = .tail
                  ∨ (s.keying.state = .hold ∧ s.keying.bridged = some i ∧ s.keying.current = none)))
              ∨ (c = .launch ∧ s.keying.current = some i ∧ (s.keying.state = .lead ∨ s.keying.state = .hold)
                ∧ r.state = .keying ∧ (r.launch.add (ticksOf r.inc r.j)).diff now ≤ 0)
              ∨ (c = .blockRead ∧ s.keying.current = some i ∧ s.keying.state = .symbols ∧ r.state = .onAir
                ∧ s.pacer.symbol % 256 = 255 ∧ 256 * (s.pacer.symbol / 256 + 1) < r.k ∧ r.stop = none
                ∧ s.pacer.next.map (·.index) ≠ some (s.pacer.symbol / 256 + 1))
              ∨ (c = .blockRead ∧ s.keying.current = some i ∧ r.state = .keying
                ∧ s.pacer.block.map (·.index) ≠ some (r.j / 256))))
          ∨ (c = .pacerCarry ∧ s.keying.state = .symbols ∧ 4294967296 ≤ s.pacer.acc)
          ∨ (c = .tailEnd ∧ s.keying.state = .tail ∧ ∃ x, s.keying.tailEnd = some x ∧ x.diff now ≤ 0)
          ∨ (∃ op, s.engine = .reading op ∧
            ((c = .readFramePlaced ∧ (s.link op.handed.link).replies.length < 4)
              ∨ (c = .readStall ∧ 4 ≤ (s.link op.handed.link).replies.length ∧ 20000000 ≤ op.stall)))
          ∨ (∃ op, s.engine = .storing op ∧ c = .storeComplete (Config.storeVerifies s.free)
            ∧ (Config.storeEnds s.free = true ∨ 4000000 ≤ op.elapsed))
          ∨ (∃ l, c = .replySent l ∧ (s.link l).sending ≠ none ∧ Config.replyEnds s.free (decide (l = .b)) = true))
    ∧ ∀ s : State,
      let n := s.free
      let lo := Config.loCycle n
      let ref := Config.refEdge n
      let one := if lo then 1 else 0
      let ticks := if s.time.refPresent then ref else lo
      let gap := s.time.refQuiet + one
      s.beat = { s with
        time := { s.time with
          clock := if ticks then s.time.clock.add 1 else s.time.clock
          u := if ticks = true ∧ s.time.clock.tick.val = 9999999
                ∧ (s.time.state = .holdover ∨ s.time.state = .acquiring true) then
              min (s.time.u + s.store.settings.holdoverRate) 2147483647
            else s.time.u
          pps := if ticks then s.time.pps.map (· + 1) else s.time.pps
          spacing := if ticks then s.time.spacing.map (· + 1) else s.time.spacing
          refQuiet := if ref then 0 else gap
          refTiming := if s.time.refPresent then none
            else if 20 < gap then (if ref then some 0 else none)
            else match s.time.refTiming with
              | some m => some (m + one)
              | none => if ref then some 0 else none }
        linkA := { s.linkA with
          gapTimer := if lo = true ∧ Config.lineIdle n false = true then
              s.linkA.gapTimer.map (fun g => { g with elapsed := g.elapsed + 1 })
            else s.linkA.gapTimer
          silence := if lo = true ∧ s.linkA.up = true then s.linkA.silence + 1 else s.linkA.silence }
        linkB := { s.linkB with
          gapTimer := if lo = true ∧ Config.lineIdle n true = true then
              s.linkB.gapTimer.map (fun g => { g with elapsed := g.elapsed + 1 })
            else s.linkB.gapTimer
          silence := if lo = true ∧ s.linkB.up = true then s.linkB.silence + 1 else s.linkB.silence }
        engine := match s.engine with
          | .free => .free
          | .storing op => .storing { op with elapsed := op.elapsed + one }
          | .reading op => .reading { op with
              stall := if 4 ≤ (s.link op.handed.link).replies.length then op.stall + one else op.stall }
        keying := { s.keying with
          modstb := if ticks then false else s.keying.modstb
          txrdy := s.keying.txrdy || Config.txrdyRises n }
        pacer := if ticks = true ∧ s.keying.state = .symbols then
            { s.pacer with acc := s.pacer.acc + ((s.keying.current.bind s.record).map (·.inc)).getD 0 }
          else s.pacer
        symbols := match Config.disturbance n with
          | none => s.symbols
          | some (a, v) => { s.symbols with memory := s.symbols.memory.write a.val v }
        free := n + 1 }

/-- The state after reset meets every law of `Safety`. -/
def Obligations.ResetMeetsEveryLaw : Prop :=
  MemoryCanonical State.reset ∧ NumbersDistinct State.reset ∧ BlocksConserved State.reset
    ∧ UncertaintySound State.reset ∧ SequencerTied State.reset ∧ PortSound State.reset ∧ ShadowSound State.reset
    ∧ DependentsNeedSwitch State.reset ∧ BuffersBounded State.reset

/-! ### Laws that every step keeps -/

/-- The block pool's memory keeps its canonical form (log 8). -/
def Obligations.EveryStepKeepsMemoryCanonical : Prop :=
  ∀ s t : State, MemoryCanonical s → step s = .next t → MemoryCanonical t

/-- No batch number appears more than once among the records and the launch history (R93). -/
def Obligations.EveryStepKeepsNumbersDistinct : Prop :=
  ∀ s t : State, NumbersDistinct s → step s = .next t → NumbersDistinct t

/-- Each block number is held in exactly one place, so the free list's length plus the blocks held in chains is always
1024, and STATUS reports the free list's length. Allocation moves numbers from the list's head into one chain, release moves a
record's numbers to the list, and a restart rebuilds the list whole while it empties the batch table (R102). -/
def Obligations.EveryStepConservesBlocks : Prop :=
  (∀ s t : State, BlocksConserved s → step s = .next t → BlocksConserved t)
    ∧ (∀ s : State, BlocksConserved s →
      s.symbols.free.length + s.heldBlocks.length = 1024 ∧ natAt s.statusData 28 2 = s.symbols.free.length
        ∧ 1024 - natAt s.statusData 28 2 = s.heldBlocks.length)
    ∧ (∀ (t u : SymbolStore) (p : Nat) (bytes : List Byte) (chain : List Block), t.allocate p bytes = some (chain, u) →
      t.free = chain ++ u.free)
    ∧ (∀ (s : State) (i : Slot) (r : Record) (o : BatchOutcome), s.record i = some r → r.state ≠ .shadow →
      (s.becomeShadow i o).symbols.free = s.symbols.free ++ r.blocks
        ∧ ∃ q, (s.becomeShadow i o).record i = some q ∧ q.blocks = [])
    ∧ (∀ (s : State) (i : Slot) (r : Record) (o : BatchOutcome),
      (s.retire i r o).symbols.free = s.symbols.free ++ r.blocks ∧ (s.retire i r o).record i = none)
    ∧ ∀ s : State, (s.coldStart.symbols.free = List.finRange 1024 ∧ s.coldStart.records = [])
      ∧ (s.warmRestart.symbols.free = List.finRange 1024 ∧ s.warmRestart.records = [])

/-- U is 0 throughout UNSET, ACQUIRING with no estimate and LOCKED, saturates, and a step is pending in ACQUIRING alone
(R6, R9, R15). -/
def Obligations.EveryStepKeepsUncertaintySound : Prop :=
  ∀ s t : State, UncertaintySound s → step s = .next t → UncertaintySound t

/-- At most one record is KEYING or ON_AIR, and it is the sequencer's current record (R107, R137); and MOD is 0 in IDLE, and
the rest level of the rest row in LEAD, HOLD and TAIL (R138). -/
def Obligations.EveryStepKeepsTheSequencerSound : Prop :=
  (∀ s t : State, SequencerTied s → step s = .next t → SequencerTied t)
    ∧ (∀ s t : State, PortSound s → step s = .next t → PortSound t)

/-- A SHADOW record carries an outcome and holds no blocks, and no other record carries one (R100, R107, R114); while no
switch is pending, the dependent count is 0 (R28); and the frame buffers, the reply queues and the launch history never
hold more than their places (R66, R70, R168). -/
def Obligations.EveryStepKeepsShadowDependentsAndBuffers : Prop :=
  (∀ s t : State, ShadowSound s → step s = .next t → ShadowSound t)
    ∧ (∀ s t : State, DependentsNeedSwitch s → step s = .next t → DependentsNeedSwitch t)
    ∧ (∀ s t : State, BuffersBounded s → step s = .next t → BuffersBounded t)

/-! ### Laws of the whole machine -/

/-- From one step to the next, a record that keeps its slot keeps what its creation fixed, and its range only shrinks: j
never decreases and k never increases (R56, R106, R107, R110, R133). -/
def Obligations.RecordRangesOnlyShrink : Prop :=
  ∀ s t : State, step s = .next t → RecordsGrow s t

/-- A record comes to be KEYING or ON_AIR only with the launch gate open for its row and TXRDY true (R16, R140). -/
def Obligations.KeyedOnlyThroughAnOpenGate : Prop :=
  ∀ (s t : State) (i : Slot) (r : Record), step s = .next t → t.record i = some r → r.keyed →
    (∀ q, s.record i = some q → ¬ q.keyed) → t.gateOpen r.row = true ∧ t.keying.txrdy = true

/-- The site clock moves by one tick, by a step to the TOD second's tick 0 with the sequencer IDLE and the unit LOCKED
after it, or by the command COLD_START (R4, R9, R18). -/
def Obligations.ClockMovesByTickOrStep : Prop :=
  ∀ s t : State, step s = .next t →
    t.time.clock = s.time.clock ∨ t.time.clock = s.time.clock.add 1
      ∨ (s.keying.state = .idle ∧ t.time.state = .locked ∧ ∃ m, s.time.coming = some m ∧ t.time.clock = ⟨m.second, 0⟩)
      ∨ (s.pending.head? = some .coldStart ∧ t.time.clock = ⟨0, 0⟩ ∧ t.time.state = .unset)

/-- No counter falls, but at the command COLD_START and where a CLEAR_COUNTERS is carried out, as a command or out of a frame
taken: they set every counter to 0, and a lost reply of that very request may then be counted (R171, R172). -/
def Obligations.CountersOnlyRise : Prop :=
  ∀ s t : State, step s = .next t →
    (∀ c : Counter, (s.counter c).toNat ≤ (t.counter c).toNat)
      ∨ (s.pending.head? = some .coldStart ∧ ∀ c : Counter, t.counter c = 0)
      ∨ (s.clearComes ∧ ∀ c : Counter,
          t.counter c = 0 ∨ (t.counter c = 1 ∧ ∃ l, c = .link l .replyLost ∧ 4 ≤ (s.link l).replies.length))

/-! ### Layouts -/

/-- A frame sent with its own check is GOOD at the receiving deframer, whatever its bytes: it stands behind the frames held,
the link is UP, and nothing else of the state changes (R61 to R63, R66, R67, R75, R178). A frame is the lead byte 0xA3, the
body's length, the body and its CRC-16, and the CRC-16 takes each byte most significant bit first into a register that begins
at 0xFFFF, by the polynomial 0x1021 (R177, R178). -/
def Obligations.AFrameSentWholeIsGood : Prop :=
  (∀ (l : Link) (body : List Byte) (s : State), 1 ≤ body.length → body.length ≤ 288 → (s.link l).deframer = .hunt →
    (s.link l).buffers.length < 2 → s.arbiter.occupied = true →
    receiveRun l (frameOf body) s =
      some ((s.setLink l ({ s.link l with
        deframer := .hunt
        gapTimer := none
        buffers := (s.link l).buffers ++ [body]
        up := true
        silence := 0 }).beginReply).bump (.link l (.attempt .good))))
    ∧ (∀ body : List Byte, frameOf body =
      [0xA3, BitVec.ofNat 8 (body.length / 256), BitVec.ofNat 8 body.length] ++ body
        ++ [(crc16 body).extractLsb' 8 8, (crc16 body).extractLsb' 0 8])
    ∧ crc16 [] = 0xFFFF
    ∧ ∀ (bytes : List Byte) (b : Byte), crc16 (bytes ++ [b]) =
      [7, 6, 5, 4, 3, 2, 1, 0].foldl (fun (reg : Word16) (k : Nat) =>
        if reg.getLsbD 15 = b.getLsbD k then reg <<< 1 else (reg <<< 1) ^^^ 0x1021) (crc16 bytes)

/-- The rows of the tables, byte by byte, most significant byte first and a signed field in two's complement: the 35 bytes of
the settings row, the 32 of a MODES row, the 4 of a ZONES and of a SITE row, and the 516 of a profile's image, the SITE row,
the eight MODES rows and the 64 ZONES rows (R35, R177). A row in range reads back as it was written and is kept unchanged, so
a row read and written again is answered DONE (R31, R179). Every row of its length that is not refused is read in that same
layout, a field outside its range too, before it is judged (R179). -/
def Obligations.TableRowsReadBack : Prop :=
  (∀ t : Settings, t.InRange →
    (settingsBytes t).length = 35 ∧ readSettings (settingsBytes t) = some t ∧ keptSettings t = t)
    ∧ (∀ m : ModeRow, m.InRange → (modeBytes m).length = 32 ∧ readMode (modeBytes m) = some m ∧ clampMode m = m)
    ∧ (∀ z : ZoneRow, z.InRange → (zoneBytes z).length = 4 ∧ readZone (zoneBytes z) = some z ∧ clampZone z = z)
    ∧ (∀ f : Profile, OffsetInRange f.siteOffset →
        (siteBytes f).length = 4 ∧ intAt (siteBytes f) 0 4 = f.siteOffset ∧ clampOffset f.siteOffset = f.siteOffset)
    ∧
    let one := fun (v : Nat) => [BitVec.ofNat 8 v]
    let two := fun (v : Nat) => [BitVec.ofNat 8 (v / 256), BitVec.ofNat 8 v]
    let four := fun (v : Nat) =>
      [BitVec.ofNat 8 (v / 16777216), BitVec.ofNat 8 (v / 65536), BitVec.ofNat 8 (v / 256), BitVec.ofNat 8 v]
    let signed4 := fun (v : Int) => four (v % 4294967296).toNat
    let signed3 := fun (v : Int) =>
      let u := (v % 16777216).toNat
      [BitVec.ofNat 8 (u / 65536), BitVec.ofNat 8 (u / 256), BitVec.ofNat 8 u]
    let word := fun (w : Word16) => [w.extractLsb' 8 8, w.extractLsb' 0 8]
    (∀ row : List Byte, (row.length = 35 → ∀ t, readSettings row = some t → settingsBytes t = row)
        ∧ (row.length = 32 → ∀ m, readMode row = some m → modeBytes m = row)
        ∧ (row.length = 4 → ∀ z, readZone row = some z → zoneBytes z = row)
        ∧ (row.length = 4 → ∀ f : Profile, f.siteOffset = intAt row 0 4 → siteBytes f = row
          ∧ -2147483648 ≤ f.siteOffset ∧ f.siteOffset ≤ 2147483647)
        ∧ (∀ z, row.length = 4 → readZone row = some z → -8388608 ≤ z.offset ∧ z.offset ≤ 8388607)
        ∧ (∀ m, row.length = 32 → readMode row = some m → -2147483648 ≤ m.offset ∧ m.offset ≤ 2147483647))
      ∧ (∀ t : Settings, settingsBytes t =
        word t.siteAddress ++ word (t.groups.get 0) ++ word (t.groups.get 1) ++ word (t.groups.get 2)
          ++ word (t.groups.get 3) ++ one t.rateA ++ one t.rateB
          ++ [match t.preferred with
              | .link .a => 0x00
              | .link .b => 0x01
              | .unlisted c => c]
          ++ one t.rotation ++ one t.gapLimit ++ one t.silence ++ four t.setupMargin ++ one t.maxLead ++ four t.guard
          ++ four t.bridgeLimit ++ one t.acqCount ++ four t.holdoverRate ++ [t.alarmEnable])
      ∧ (∀ m : ModeRow, modeBytes m =
        two m.rate ++ signed4 m.offset ++ four m.keyLead ++ four m.tail ++ word m.rest
          ++ word (m.levels.get 0) ++ word (m.levels.get 1) ++ word (m.levels.get 2) ++ word (m.levels.get 3)
          ++ [match m.levelSet with
              | .four => 0x00
              | .two => 0x01
              | .unlisted c => c,
            match m.late with
              | .drop => 0x00
              | .join => 0x01
              | .unlisted c => c]
          ++ two m.joinMin ++ four m.tolerance)
      ∧ (∀ z : ZoneRow, zoneBytes z =
        (match z.mode with
          | .off => 0x00
          | .track => 0x01
          | .launch => 0x02
          | .unlisted c => c) :: signed3 z.offset)
      ∧ ∀ f : Profile, siteBytes f = signed4 f.siteOffset ∧ (profileImage f).length = 516
        ∧ (profileImage f).take 4 = siteBytes f
        ∧ (∀ m : Fin 8, ((profileImage f).drop (4 + 32 * m.val)).take 32 = modeBytes (f.modes.get m))
        ∧ (∀ z : Fin 64, ((profileImage f).drop (260 + 4 * z.val)).take 4 = zoneBytes (f.zones.get z))

/-- A snapshot written whole is found again: a copy that a STORE wrote and verified passes both checks, and gives back the
settings record, the four profiles and the active profile number, in 2100 bytes: the settings row, the four images and the
active number, in that order. Nothing fails but by those two checks: the CRC-16, and an active profile number above 3; and a
copy that passes both is read as it stands, every byte of it (R37, R39, R40, R178; log 13). -/
def Obligations.StoredCopyReadsBack : Prop :=
  (∀ (t : Settings) (fs : Vector Profile 4) (n : Fin 4), t.InRange → (∀ i, (fs.get i).InRange) →
    (snapshotBytes t fs n).length = 2100
      ∧ readCopy { bytes := snapshotBytes t fs n, check := crc16 (snapshotBytes t fs n) } = some (t, fs, n))
    ∧ (∀ (t : Settings) (fs : Vector Profile 4) (n : Fin 4), snapshotBytes t fs n =
      settingsBytes t ++ profileImage (fs.get 0) ++ profileImage (fs.get 1) ++ profileImage (fs.get 2)
        ++ profileImage (fs.get 3) ++ [BitVec.ofNat 8 n.val])
    ∧ (∀ nv : NvCopy, readCopy nv = none ↔ crc16 nv.bytes ≠ nv.check ∨ 3 < (nv.bytes.getD 2099 0).toNat)
    ∧ ∀ (nv : NvCopy) (t : Settings) (fs : Vector Profile 4) (n : Fin 4), nv.bytes.length = 2100 →
      readCopy nv = some (t, fs, n) → snapshotBytes t fs n = nv.bytes

/-! ### Launch instant arithmetic -/

/-- A count of up to 2^31 − 1 seconds added to an instant is its difference from it, and counts add up (R44, R45). The second
difference is taken modulo 2^32 into −2^31 … 2^31 − 1, and a second has 10 000 000 ticks (R44); the sum carries and borrows
between ticks and seconds, the seconds modulo 2^32 (R45). -/
def Obligations.InstantPlusCountDiffersByIt : Prop :=
  (∀ (x : Instant) (c : Int), -(2147483647 * 10000000) ≤ c → c ≤ 2147483647 * 10000000 → (x.add c).diff x = c)
    ∧ (∀ (x : Instant) (a b : Int), (x.add a).add b = x.add (a + b))
    ∧ (∀ a b : Word32, secondDiff a b =
      let d : Int := ((a.toNat : Int) - b.toNat) % 4294967296
      if d < 2147483648 then d else d - 4294967296)
    ∧ (∀ x y : Instant, x.diff y = secondDiff x.sec y.sec * 10000000 + ((x.tick.val : Int) - y.tick.val))
    ∧ ∀ (x : Instant) (c : Int),
      ((x.add c).tick.val : Int) = ((x.tick.val : Int) + c) % 10000000
        ∧ ((x.add c).sec.toNat : Int) = ((x.sec.toNat : Int) + ((x.tick.val : Int) + c) / 10000000) % 4294967296

/-- The searches find what they are for: the first boundary at or after an instant, the last one at or before it, and the
symbol in progress, all by the one boundary function (R49, R51, R52). -/
def Obligations.BoundarySearchesAreExact : Prop :=
  ∀ inc : Nat, 1 ≤ inc → inc < 2 ^ 32 →
    ticksOf inc 0 = 0 ∧ (∀ m, ticksOf inc m < ticksOf inc (m + 1))
      ∧ (∀ d : Int, d ≤ (ticksOf inc (firstBoundary inc d) : Int)
          ∧ ∀ m, d ≤ (ticksOf inc m : Int) → firstBoundary inc d ≤ m)
      ∧ (∀ d : Int, 0 ≤ d → (ticksOf inc (lastBoundary inc d) : Int) ≤ d
          ∧ ∀ m, (ticksOf inc m : Int) ≤ d → m ≤ lastBoundary inc d)
      ∧ (∀ d : Int, d < 0 → lastBoundary inc d = 0)
      ∧ (∀ t m, t * inc / 2 ^ 32 = m ↔ ticksOf inc m ≤ t ∧ t < ticksOf inc (m + 1))

/-- The preload lies in 0 … inc − 1 and is 0 for j = 0, and the start of a record's symbols loads it, formed from the j and
inc it then has, and puts symbol j out at that tick (R57). -/
def Obligations.LaunchLoadsThePreload : Prop :=
  (∀ inc j : Nat, 1 ≤ inc → preloadOf inc j + j * 2 ^ 32 = ticksOf inc j * inc ∧ preloadOf inc j < inc
      ∧ preloadOf inc 0 = 0)
    ∧ (∀ (s : State) (i : Slot) (r : Record), s.record i = some r →
        (s.startSymbols i).pacer.acc = preloadOf r.inc r.j ∧ (s.startSymbols i).pacer.symbol = r.j
          ∧ (s.startSymbols i).keying.modstb = true
          ∧ (s.startSymbols i).keying.mod = levelWord r.row (s.symbolValue r r.j))
    ∧ ∀ (s : State) (i : Slot), s.launchDue = some i → exec .launch s = .next (s.startSymbols i)

/-- The pacer's count is the batch's phase: t ticks after N, symbol m going out, the accumulator holds t × inc − m × 2^32,
so a tick keeps it, a carry keeps it, and the carry into the next symbol falls at its boundary (R49, R58, R142). A tick is the
advance of the site clock in a beat. That the sum holds its carry until PACER_CARRY takes it is the model's (log 25). -/
def Obligations.PacerKeepsTheBoundaries : Prop :=
  ∀ (s : State) (i : Slot) (r : Record) (t : Nat), s.keying.state = .symbols → s.keying.current = some i →
    s.record i = some r → 1 ≤ r.inc → r.inc < 2 ^ 32 → s.pacer.acc + s.pacer.symbol * 2 ^ 32 = t * r.inc →
      (s.clockTick.pacer.acc + s.clockTick.pacer.symbol * 2 ^ 32 = (t + 1) * r.inc)
        ∧ (let ticks := if s.time.refPresent then Config.refEdge s.free else Config.loCycle s.free
          s.beat.pacer = if ticks then s.clockTick.pacer else s.pacer)
        ∧ (s.carryDue = true ↔ ticksOf r.inc (s.pacer.symbol + 1) ≤ t)
        ∧ (s.carryDue = true → r.stop = none → s.pacer.symbol + 1 < r.k →
            ∃ q, exec .pacerCarry s = .next q ∧ q.pacer.symbol = s.pacer.symbol + 1
              ∧ q.pacer.acc + q.pacer.symbol * 2 ^ 32 = t * r.inc)

/-- Of two records of different numbers exactly one wins, and conflict does not depend on the order in which they are named
(R125, R126); two launches exactly 2^31 seconds apart, of which each reads as the earlier, are left out (log 28). They
conflict when each one's N is earlier than the other's nominal end widened by the guard. The higher class wins, then the
earlier N, then the number that precedes: X precedes Y when (Y − X) mod 65 536 lies in 1 … 32 767, or is 32 768 with X the
smaller unsigned (R93). -/
def Obligations.EveryPairHasOneWinner : Prop :=
  (∀ (g : Nat) (a b : Record), conflict g a b = conflict g b a)
    ∧ (∀ a b : Record, a.number ≠ b.number → secondDiff a.launch.sec b.launch.sec ≠ -2147483648 →
      (wins a b = true ↔ wins b a = false))
    ∧ (∀ (g : Nat) (a b : Record), conflict g a b = true ↔
      a.launch.diff (b.nominalEnd.add g) < 0 ∧ b.launch.diff (a.nominalEnd.add g) < 0)
    ∧ (∀ x y : Word16,
      let d := (65536 + y.toNat - x.toNat) % 65536
      precedes x y = true ↔ (1 ≤ d ∧ d ≤ 32767) ∨ (d = 32768 ∧ x.toNat < y.toNat))
    ∧ ∀ a b : Record, secondDiff a.launch.sec b.launch.sec ≠ -2147483648 →
      (wins a b = true ↔ b.cls.val < a.cls.val
        ∨ (a.cls = b.cls ∧ (a.launch.diff b.launch < 0
          ∨ (a.launch = b.launch ∧ precedes a.number b.number = true))))

/-! ### Restarts -/

/-- A cold start: every block as its chapter lays down, the profile store out of the copy it finds, or the factory load, the
settings record at its defaults and four factory profiles (R18, R23, R24, R40, R76, R98, R105, R122, R152, R154, R168, R176).
The copy fails by its CRC-16 or its active number alone, and a field out of its range is recalled as it stands (log 13);
TXRDY stays as the transmitter drives it (log 9). A cold start that cuts a STORE's write finds the copy in doubt, a mixture
bit by bit of the old and the new, and goes on from it in the same way (R38, R154; log 12). -/
def Obligations.ColdStartSetsEveryBlock : Prop :=
  (∀ s : State, (∀ op, s.engine ≠ .storing op) →
    ∃ t, exec .coldStart s = .next t
      ∧ t.time.clock = ⟨0, 0⟩ ∧ t.time.state = .unset ∧ t.time.u = 0 ∧ t.time.run = 0 ∧ t.time.outliers = 0
      ∧ t.time.qualityZero = 0 ∧ t.time.stepPending = false ∧ t.time.refPresent = false ∧ t.time.refTiming = none
      ∧ t.time.pps = none ∧ t.time.spacing = none ∧ t.time.tod = none ∧ t.time.coming = none ∧ t.time.previous = none
      ∧ t.store.nv = s.store.nv ∧ t.store.pending = none
      ∧ (∀ settings profiles active, readCopy s.store.nv = some (settings, profiles, active) →
          t.store.settings = settings ∧ t.store.profiles = profiles ∧ t.store.active = active ∧ t.store.nvFault = false
            ∧ t.latches = 0x07)
      ∧ ((crc16 s.store.nv.bytes ≠ s.store.nv.check ∨ 3 < (s.store.nv.bytes.getD 2099 0).toNat) →
          t.store.settings =
              { siteAddress := 0xFFFE, groups := Vector.replicate 4 0, rateA := 5, rateB := 5, preferred := .link .a,
                rotation := 4, gapLimit := 10, silence := 10, setupMargin := 50000, maxLead := 30, guard := 2000,
                bridgeLimit := 500000, acqCount := 3, holdoverRate := 50, alarmEnable := 0xFF }
            ∧ t.store.profiles = Vector.replicate 4
              { siteOffset := 0
                modes := Vector.replicate 8
                  { rate := 0, offset := 0, keyLead := 0, tail := 0, rest := 0, levels := Vector.replicate 4 0,
                    levelSet := .four, late := .drop, joinMin := 1, tolerance := 0 }
                zones := Vector.replicate 64 { mode := .off, offset := 0 } }
            ∧ t.store.active = 0 ∧ t.store.nvFault = true ∧ t.latches = 0x0F)
      ∧ (∀ l, t.link l =
          { lineRate := t.store.settings.rate l, rateChange := none, deframer := .hunt, gapTimer := none, buffers := [],
            up := false, silence := 0, replies := [], sending := none })
      ∧ t.arbiter.occupied = false ∧ t.arbiter.runCount = 0
      ∧ t.symbols = { s.symbols with free := List.finRange 1024 } ∧ (∀ i, t.record i = none)
      ∧ t.keying = { state := .idle, current := none, bridged := none, restRow := none, endInstant := none,
                     tailEnd := none, mod := 0, modstb := false, txrdy := s.keying.txrdy }
      ∧ t.engine = .free ∧ t.restartCalled = false ∧ t.history = [] ∧ (∀ c, t.counter c = 0) ∧ t.pending = s.pending)
    ∧ ∀ (s : State) (op : StoreOp), s.engine = .storing op →
      exec .coldStart s = exec .coldStart { s with
        engine := .free, store := { s.store with nv := mixedCopy s.free s.store.nv op.snapshot } }

/-- A warm restart, the event that follows a RESTART carried out, by the table of R167: what it clears, and that all else
stays (R19, R41, R77, R105, R122, R152, R154, R167, R170, R172). With no RESTART carried out it changes nothing (log 3), and a
call that finds the engine busy is let go, so that it never interrupts a STORE (R41; the model's choice, log 42). -/
def Obligations.WarmRestartClearsTheTrafficAlone : Prop :=
  ∀ s : State,
    (s.restartCalled = true → s.engine = .free →
      ∃ t, exec .warmRestart s = .next t
        ∧ t.time = s.time ∧ t.store = s.store ∧ (∀ l, t.link l = { s.link l with buffers := [] })
        ∧ t.arbiter = { s.arbiter with occupied := false, runCount := 0 }
        ∧ t.symbols = { s.symbols with free := List.finRange 1024 } ∧ (∀ i, t.record i = none)
        ∧ t.keying = { state := .idle, current := none, bridged := none, restRow := none, endInstant := none,
                       tailEnd := none, mod := 0, modstb := false, txrdy := s.keying.txrdy }
        ∧ t.engine = .free ∧ t.restartCalled = false ∧ t.history = [] ∧ t.counters = s.counters
        ∧ t.latches = s.latches ∧ t.free = s.free ∧ t.pending = s.pending)
      ∧ (s.restartCalled = true → s.engine ≠ .free → exec .warmRestart s = .next { s with restartCalled := false })
      ∧ (s.restartCalled = false → exec .warmRestart s = .next s)

/-! ### Site time -/

/-- REF_LOST, the PPS missing event and REF_BACK, by clock state: the count source, the state, U and the runs, the CLOCK
latch, and nothing else (R1, R2, R4, R6, R11, R13, R14, R174). -/
def Obligations.ReferenceEventsActByClockState : Prop :=
  (∀ s : State, s.time.refPresent = true → 20 ≤ s.time.refQuiet →
      let lost := { s with time := { s.time with refPresent := false, refTiming := none, spacing := none } }
      exec .refLost s = .next (match s.time.state with
        | .unset => lost
        | .acquiring false => { lost with time := { lost.time with run := 0, stepPending := false } }
        | .acquiring true => { lost with time := { lost.time with run := 0, stepPending := false, state := .holdover } }
        | .locked =>
          { lost with
            time := { lost.time with u := 1000, outliers := 0, qualityZero := 0, state := .holdover }
            latches := s.latches ||| 0x01 }
        | .holdover => lost))
    ∧ (∀ (s : State) (n : Nat), s.time.pps = some n → 15000000 ≤ n →
        let missed := { s with time := { s.time with pps := none } }
        exec .ppsMissing s = .next (match s.time.state with
          | .unset => missed
          | .acquiring false => { missed with time := { missed.time with run := 0, stepPending := false } }
          | .acquiring true =>
            { missed with time := { missed.time with run := 0, stepPending := false, state := .holdover } }
          | .locked =>
            { missed with
              time := { missed.time with u := 1000, outliers := 0, qualityZero := 0, state := .holdover }
              latches := s.latches ||| 0x01 }
          | .holdover => missed))
    ∧ ∀ (s : State) (n : Nat), s.time.refPresent = false → s.time.refTiming = some n → 1000000 ≤ n →
        exec .refBack s = .next { s with time := { s.time with refPresent := true, refTiming := none } }

/-- The lead byte starts a TOD message, and the six bytes after it complete it: a good one is the message for the coming edge
and goes to the quality-0 run, any other is ignored and counted (R3, R13, R174). The lead byte's stop-bit error counts with
the others (log 14). Byte by byte: hunting, the receiver discards every byte but the lead byte, and inside a message it takes
each byte whatever its value, the lead byte's among them. -/
def Obligations.TodMessageIsJudgedWhole : Prop :=
  (∀ (s : State) (e : Bool), s.time.tod = none →
      exec (.todLeadByte e) s = .next { s with time := { s.time with tod := some { bytes := [], faulty := e } } })
    ∧ (∀ (s : State) (e : Bool) (second : Word32) (quality check : Byte) (faults : BitVec 6),
      s.time.tod = some { bytes := [], faulty := e } →
        let good := { s with time := { s.time with
          tod := none, coming := some { second := second, fix := decide (quality = 1) } } }
        exec (.todMessage second quality check faults) s = .next (
          if e = true ∨ faults ≠ 0
              ∨ check ≠ (second >>> 24).setWidth 8 + (second >>> 16).setWidth 8 + (second >>> 8).setWidth 8
                + second.setWidth 8 + quality then
            { s with time := { s.time with tod := none } }.bump .todFailures
          else if quality = 1 then { good with time := { good.time with qualityZero := 0 } }
          else if s.time.state = .locked then
            if s.time.qualityZero < 2 then
              { good with time := { good.time with qualityZero := s.time.qualityZero + 1 } }
            else
              { good with
                time := { good.time with u := 1000, outliers := 0, qualityZero := 0, state := .holdover }
                latches := s.latches ||| 0x01 }
          else good))
    ∧ (∀ (s : State) (b : Byte) (e : Bool),
      (s.time.tod = none → b ≠ 0xD7 → s.todByte b e = s)
        ∧ (s.time.tod = none →
          s.todByte 0xD7 e = { s with time := { s.time with tod := some { bytes := [], faulty := e } } })
        ∧ ∀ p, s.time.tod = some p → p.bytes.length < 5 →
          s.todByte b e =
            { s with time := { s.time with tod := some { bytes := p.bytes ++ [b], faulty := p.faulty || e } } })
    ∧ (∀ (s : State) (e : Bool), exec (.todLeadByte e) s = .next (s.todByte 0xD7 e))
    ∧ ∀ (s : State) (second : Word32) (quality check : Byte) (faults : BitVec 6),
      exec (.todMessage second quality check faults) s = .next
        (((((((s.todByte ((second >>> 24).setWidth 8) (faults.getLsbD 0)).todByte ((second >>> 16).setWidth 8)
          (faults.getLsbD 1)).todByte ((second >>> 8).setWidth 8) (faults.getLsbD 2)).todByte (second.setWidth 8)
          (faults.getLsbD 3)).todByte quality (faults.getLsbD 4)).todByte check (faults.getLsbD 5)))

/-- The second boundary: the clock goes to tick 0 of the next second, U grows by the holdover rate, saturating, in HOLDOVER
and in ACQUIRING with an estimate, and what counts advances of the clock counts this one (R2, R4, R5, R15, R138, R142). At any
other tick it is no second boundary and nothing changes (log 26). -/
def Obligations.SecondBoundaryGrowsUncertainty : Prop :=
  ∀ s : State,
    (s.time.clock.tick.val = 9999999 →
      ∃ t, exec .secondBoundary s = .next t
        ∧ t = { s with
            time := { s.time with
              clock := ⟨s.time.clock.sec + 1, 0⟩
              u := if s.time.state = .holdover ∨ s.time.state = .acquiring true then
                  min (s.time.u + s.store.settings.holdoverRate) 2147483647
                else s.time.u
              pps := s.time.pps.map (· + 1)
              spacing := s.time.spacing.map (· + 1) }
            keying := { s.keying with modstb := false }
            pacer := t.pacer }
        ∧ (s.keying.state ≠ .symbols → t.pacer = s.pacer)
        ∧ (∀ i r, s.keying.state = .symbols → s.keying.current = some i → s.record i = some r →
            t.pacer = { s.pacer with acc := s.pacer.acc + r.inc }))
      ∧ (s.time.clock.tick.val ≠ 9999999 → exec .secondBoundary s = .next s)

/-- What every PPS edge does besides the clock state: the TOD message for it is consumed, one still incomplete is ignored and
counted, and the PPS count and the spacing restart (R2, R3, R5). In UNSET and HOLDOVER a fixed edge with REF present starts
acquisition, and in LOCKED an edge that is not clean is an outlier, the third of which leaves LOCKED with U from its offset
(R6, R12, R14). That an edge without a message leaves the previous TOD second as it was is the model's reading (log 15). -/
def Obligations.EdgeJudgedOutsideAcquisition : Prop :=
  (∀ s : State,
    let counted := if s.time.tod = none then s else s.bump .todFailures
    s.edgeTaken = { counted with time := { s.time with
      previous := match s.time.coming with
        | some m => some m.second
        | none => s.time.previous
      coming := none
      tod := none
      pps := some 0
      spacing := if s.time.refPresent then some 0 else none } })
    ∧ (∀ s : State,
    let u := s.edgeTaken
    (s.time.state = .unset →
        exec .ppsEdge s = .next (
          if s.time.edgeFixed then { u with time := { u.time with run := 1, state := .acquiring false } } else u))
      ∧ (s.time.state = .holdover →
        exec .ppsEdge s = .next (
          if s.time.edgeFixed then { u with time := { u.time with run := 1, state := .acquiring true } } else u))
      ∧ (s.time.state = .locked →
        exec .ppsEdge s = .next (
          if (s.time.clock.tick = 0 ∨ s.time.clock.tick = 1 ∨ s.time.clock.tick = 9999999)
              ∧ s.time.coming.map (·.second) =
                  some (if s.time.clock.tick.val < 5000000 then s.time.clock.sec else s.time.clock.sec + 1) then
            { u with time := { u.time with outliers := 0 } }
          else if s.time.outliers < 2 then { u with time := { u.time with outliers := s.time.outliers + 1 } }
          else
            { u with
              time := { u.time with
                u := min (1000 * (if s.time.clock.tick.val < 5000000 then s.time.clock.tick.val
                  else 10000000 - s.time.clock.tick.val)) 2147483647
                run := 0, outliers := 0, state := .acquiring true }
              latches := s.latches ||| 0x01 })))
    ∧ ∀ t : TimeUnit, t.edgeFixed = true ↔ t.refPresent = true ∧ ∃ m, t.coming = some m ∧ m.fix = true

/-- A PPS edge in ACQUIRING: the consistency run, and at the acquisition count the clean entry, the step with the sequencer
IDLE, or the step-pending flag (R7, R8, R9). What an extending edge is: the run is 1 or more, REF is present, the TOD message
is fixed and names the second after the previous one, and the spacing is good; a clean one is within one tick and names the
edge second (R5, R7, R8). An edge that leaves the run at 0 is not tested, by the model's choice also where a recalled
acquisition count is 0 (log 13). At a step a pending switch that is then reached is taken (R34), and the table takes in one
pass what came due: each record of the launch queue as it stood, then the retirements, earlier first; a step back brings
nothing due (R10, R109, R112, R113, R121). That the switch comes before the pass is the model's reading (log 27). A READY
record's turn in the pass is the key-up decision alone, where it is due then; KEY_UP makes the same decision, and after one
that makes the record SHADOW it also puts the next one at the queue's front, which the pass leaves to that record's own turn
(R139; log 22, log 27, log 42). -/
def Obligations.EdgeJudgedInAcquisition : Prop :=
  (∀ (s : State) (e : Bool) (run : Nat), s.time.state = .acquiring e →
    run = (if s.time.edgeExtends then s.time.run + 1 else if s.time.edgeFixed then 1 else 0) →
    let u := s.edgeTaken
    let pending := s.time.edgeExtends && s.time.stepPending
    (run = 0 ∨ run < s.store.settings.acqCount →
        exec .ppsEdge s = .next { u with time := { u.time with run := run, stepPending := pending } })
      ∧ (run ≠ 0 → s.store.settings.acqCount ≤ run → s.time.edgeClean = true →
        exec .ppsEdge s = .next { u with time := { u.time with
          u := 0, run := 0, outliers := 0, qualityZero := 0, stepPending := false, state := .locked } })
      ∧ (run ≠ 0 → s.store.settings.acqCount ≤ run → s.time.edgeClean = false → s.keying.state ≠ .idle →
        exec .ppsEdge s = .next { u with time := { u.time with run := run, stepPending := true } })
      ∧ (∀ m, run ≠ 0 → s.store.settings.acqCount ≤ run → s.time.edgeClean = false → s.keying.state = .idle →
        s.time.coming = some m →
        let stepped := { u with time := { u.time with
          clock := ⟨m.second, 0⟩, u := 0, run := 0, outliers := 0, qualityZero := 0, stepPending := false,
          state := .locked } }
        ((∀ p, s.store.pending = some p → 0 < Instant.diff ⟨p.second, 0⟩ ⟨m.second, 0⟩) →
            exec .ppsEdge s = .next (stepped.stepPass s.time.clock ⟨m.second, 0⟩))
          ∧ (∀ p, s.store.pending = some p → Instant.diff ⟨p.second, 0⟩ ⟨m.second, 0⟩ ≤ 0 →
            exec .ppsEdge s = .next ({ stepped with
              store := { s.store with active := p.target, pending := none }
              table := s.table.map (fun (o : Option Record) => o.map (fun (r : Record) => { r with dependent := false })) }.stepPass
                s.time.clock ⟨m.second, 0⟩))))
    ∧ (∀ t : TimeUnit,
    t.edgeExtends = true ↔
      1 ≤ t.run ∧ t.refPresent = true
        ∧ (∃ m p, t.coming = some m ∧ m.fix = true ∧ t.previous = some p ∧ m.second = p + 1)
        ∧ ∃ n, t.spacing = some n ∧ 9999999 ≤ n ∧ n ≤ 10000001)
    ∧ (∀ t : TimeUnit,
    t.edgeClean = true ↔ (t.clock.tick.val = 0 ∨ t.clock.tick.val = 1 ∨ t.clock.tick.val = 9999999)
      ∧ ∃ m, t.coming = some m
        ∧ m.second = if t.clock.tick.val < 5000000 then t.clock.sec else t.clock.sec + 1)
    ∧ (∀ (s : State) (p q : Instant),
      (q.diff p ≤ 0 → s.stepPass p q = s)
        ∧ (0 < q.diff p →
          let taken := s.launchQueue.foldl (stepRecord p q) s
          s.stepPass p q = taken.retiringSlots.foldl State.retireShadow taken)
        ∧ (∀ i, s.retirementDue i = true ↔ ∃ r, s.record i = some r ∧ r.state = .shadow
          ∧ (r.nominalEnd.add s.store.settings.guard).diff s.time.clock ≤ 0)
        ∧ (∀ i, s.retirementDue i = true → exec (.retirement i) s = .next (s.retireShadow i))
        ∧ (∀ i, i ∈ s.retiringSlots ↔ s.retirementDue i = true)
        ∧ (∀ i j a b, i ≠ j → s.record i = some a → s.record j = some b →
          (∀ e, s.retirementDue e = true ↔ e = i ∨ e = j) →
          let g := s.store.settings.guard
          (a.nominalEnd.add g).diff (b.nominalEnd.add g) < 0 → 0 ≤ (b.nominalEnd.add g).diff (a.nominalEnd.add g) →
            s.retiringSlots = [i, j]))
    ∧ ∀ (s : State) (p q : Instant) (i : Slot) (r : Record), s.record i = some r →
      let due := fun x : Instant => decide (0 < q.diff p ∧ 0 < x.diff p ∧ x.diff q ≤ 0)
      let late := { r with late := true }
      let keptEnd := r.launch.add (ticksOf r.inc r.k)
      let keptLaunch := r.launch.add (ticksOf r.inc r.j)
      (r.state = .assembling → r.late = false → due r.deadline = true → r.row.late = .drop →
          stepRecord p q s i = s.becomeShadow i .droppedIncomplete)
        ∧ (r.state = .assembling → r.late = false → due r.deadline = true → r.row.late = .join →
          stepRecord p q s i =
            if due keptEnd then (s.setRecord i late).becomeShadow i .droppedLate else s.setRecord i late)
        ∧ (r.state = .assembling → r.late = true → due keptEnd = true →
          stepRecord p q s i = s.becomeShadow i .droppedLate)
        ∧ (r.state = .assembling → (r.late = false → due r.deadline = false) → (r.late = true → due keptEnd = false) →
          stepRecord p q s i = s)
        ∧ (r.state = .ready → keptLaunch.diff q < 0 → stepRecord p q s i = s.becomeShadow i .droppedLate)
        ∧ (r.state = .ready → 0 ≤ keptLaunch.diff q → due r.keptKeyUp = true →
          (s.keyUpDue i = true → stepRecord p q s i = s.decideKeyUp i)
            ∧ (s.keyUpDue i = false → stepRecord p q s i = s))
        ∧ (s.keyUpDue i = true ↔ r.state = .ready ∧ r.keptKeyUp.diff s.time.clock ≤ 0
          ∧ 0 ≤ keptLaunch.diff s.time.clock ∧ s.headReady = some i
          ∧ (s.keying.state = .idle ∨ s.keying.state = .tail
            ∨ (s.keying.state = .hold ∧ s.keying.bridged = some i ∧ s.keying.current = none)))
        ∧ (s.keyUpDue i = true →
          let t := s.decideKeyUp i
          ((∃ o, t.record i = some o ∧ o.state = .shadow) → exec (.keyUp i) s = .next (State.retireNext s t.considerNext))
            ∧ ((∀ o, t.record i = some o → o.state ≠ .shadow) → exec (.keyUp i) s = .next t))
        ∧ (r.state = .ready → 0 ≤ keptLaunch.diff q → due r.keptKeyUp = false → stepRecord p q s i = s)
        ∧ (r.state = .keying ∨ r.state = .onAir ∨ r.state = .shadow → stepRecord p q s i = s)

/-- The switch event: the target is active, no switch is pending, and the dependent mark of every record is cleared, once
the switch instant is reached by a clock that may be trusted (R28, R34); until then the command changes nothing (log 3). -/
def Obligations.SwitchEventTakesTheTarget : Prop :=
  ∀ (s : State) (p : PendingSwitch), s.store.pending = some p →
    (s.time.state ≠ .unset → s.time.state ≠ .acquiring false → Instant.diff ⟨p.second, 0⟩ s.time.clock ≤ 0 →
        ∃ t, exec .switchEvent s = .next t
          ∧ (∀ i, t.record i = (s.record i).map (fun r => { r with dependent := false }))
          ∧ t = { s with store := { s.store with active := p.target, pending := none }, table := t.table })
      ∧ (s.time.state = .unset ∨ s.time.state = .acquiring false ∨ 0 < Instant.diff ⟨p.second, 0⟩ s.time.clock →
        exec .switchEvent s = .next s)

/-! ### Carriage links -/

/-- The deframer short of a frame's end: HUNT takes the lead byte alone, the length is judged at its second byte, and the body
and first check byte are taken whatever their values, the gap timer started afresh at each (R61 to R63, R65). A byte with a
stop-bit error, and a gap longer than the limit, end the attempt with their dispositions; in HUNT neither does anything
(R64, R65, R75). That the byte commands run one deframer, and that a GAP without its cause changes nothing, is the model's
(log 16, log 3). -/
def Obligations.DeframerTakesEachByte : Prop :=
  (∀ (l : Link) (s : State) (b : Byte),
    let c := s.link l
    let fresh : Option GapTimer := some { elapsed := 0, limit := s.store.settings.gapLimit * 10000 }
    (c.deframer = .hunt →
        exec (.leadByte l) s = .next (s.setLink l { c with deframer := .length none, gapTimer := fresh })
          ∧ exec (.frameByte l 0xA3) s = .next (s.setLink l { c with deframer := .length none, gapTimer := fresh })
          ∧ (b ≠ 0xA3 → exec (.frameByte l b) s = .next s))
      ∧ (c.deframer = .length none →
        exec (.frameByte l b) s = .next (s.setLink l { c with deframer := .length (some b), gapTimer := fresh }))
      ∧ (∀ f : Byte, c.deframer = .length (some f) →
        exec (.lengthEnd l b) s = .next (
          if f.toNat * 256 + b.toNat = 0 then
            (s.setLink l { c with deframer := .hunt, gapTimer := none }).bump (.link l (.attempt .empty))
          else if 288 < f.toNat * 256 + b.toNat then
            (s.setLink l { c with deframer := .hunt, gapTimer := none }).bump (.link l (.attempt .oversize))
          else s.setLink l { c with deframer := .body (f.toNat * 256 + b.toNat) [], gapTimer := fresh }))
      ∧ (∀ (len : Nat) (got : List Byte), c.deframer = .body len got →
        exec (.frameByte l b) s = .next (s.setLink l { c with
          deframer := if got.length + 1 < len then .body len (got ++ [b]) else .check (got ++ [b]) none
          gapTimer := fresh }))
      ∧ (∀ got : List Byte, c.deframer = .check got none →
        exec (.frameByte l b) s = .next (s.setLink l { c with deframer := .check got (some b), gapTimer := fresh })))
    ∧ (∀ (l : Link) (s : State),
    let ended := s.setLink l { s.link l with deframer := .hunt, gapTimer := none }
    ((s.link l).deframer ≠ .hunt →
        exec (.badChar l) s = .next (ended.bump (.link l (.attempt .badChar))))
      ∧ ((s.link l).deframer = .hunt → exec (.badChar l) s = .next s)
      ∧ (∀ g : GapTimer, (s.link l).gapTimer = some g → g.limit < g.elapsed →
        exec (.gap l) s = .next (ended.bump (.link l (.attempt .gap))))
      ∧ (∀ g : GapTimer, (s.link l).gapTimer = some g → g.elapsed ≤ g.limit → exec (.gap l) s = .next s)
      ∧ ((s.link l).gapTimer = none → exec (.gap l) s = .next s))

/-- The second check byte: BAD_CHECK, OVERRUN, or GOOD, which fills a buffer, raises the link and restarts its silence
timer; with the engine free and nothing else waiting, the frame is taken at once (R63, R66 to R70, R75). A link that comes UP
with replies held and none being sent begins the oldest at its line rate (R70). -/
def Obligations.FrameEndGivesItsDisposition : Prop :=
  (∀ (l : Link) (s : State) (got : List Byte) (f b : Byte), (s.link l).deframer = .check got (some f) →
    let c := s.link l
    let agrees := crc16 got = f ++ b
    let good := fun (frames : List (List Byte)) =>
      { c with deframer := .hunt, gapTimer := none, buffers := frames, up := true, silence := 0 }
    (¬ agrees →
        exec (.frameEnd l b) s =
          .next ((s.setLink l { c with deframer := .hunt, gapTimer := none }).bump (.link l (.attempt .badCheck))))
      ∧ (agrees → 2 ≤ c.buffers.length →
        exec (.frameEnd l b) s =
          .next ((s.setLink l { c with deframer := .hunt, gapTimer := none }).bump (.link l (.attempt .overrun))))
      ∧ (agrees → c.buffers.length < 2 → s.arbiter.occupied = true →
        exec (.frameEnd l b) s =
          .next ((s.setLink l (good (c.buffers ++ [got])).beginReply).bump (.link l (.attempt .good))))
      ∧ (agrees → s.linkA.buffers = [] → s.linkB.buffers = [] → s.arbiter.occupied = false →
        exec (.frameEnd l b) s =
          .next ({ (s.setLink l (good []).beginReply).bump (.link l (.attempt .good)) with
            arbiter := { s.arbiter with occupied := true, runCount := 0 } }.takeFrame l got)))
    ∧ ∀ c : CarriageLink, c.beginReply =
      if c.up = true ∧ c.replies ≠ [] ∧ c.sending = none then { c with sending := some c.lineRate } else c

/-- A link whose silence timer has run for the silence time goes DOWN and its alarm is latched; before that, and on a DOWN
link, nothing changes (R67, R173, R174; log 3). -/
def Obligations.SilenceTakesALinkDown : Prop :=
  ∀ (l : Link) (s : State),
    ((s.link l).up = true → s.store.settings.silence * 10000000 ≤ (s.link l).silence →
        exec (.silenceTimeout l) s =
          .next { s.setLink l { s.link l with up := false, silence := 0 } with
            latches := s.latches ||| (if l = .a then 0x02 else 0x04) })
      ∧ ((s.link l).up = false ∨ (s.link l).silence < s.store.settings.silence * 10000000 →
        exec (.silenceTimeout l) s = .next s)

/-- The arbiter's choice when the engine becomes free: one link waiting is served, of two the preferred one until the
rotation count is reached, and the oldest frame of the link served is taken out of its buffer (R66, R68, R69). A frame taken
is dispatched on its kind: a batch part, a MANAGE frame of at least five bytes matched by its destination and handed on as
its request, or counted as UNKNOWN_KIND or FOREIGN and discarded (R78, R79). The preferred link is the settings record's; a
code that names no link, which only a recall can put there, prefers a free one (R24, R69; log 13). -/
def Obligations.ArbiterServesByRotation : Prop :=
  (∀ (s : State) (body : List Byte) (rest : List (List Byte)),
    let run := if s.arbiter.runLink = s.store.settings.preferredLink then s.arbiter.runCount else 0
    let other := otherLink s.store.settings.preferredLink
    let taken := fun (l : Link) (count : Nat) (owner : Link) =>
      ({ s.setLink l { s.link l with buffers := rest } with
        arbiter := { occupied := true, runCount := count, runLink := owner } }).takeFrame l body
    (s.linkA.buffers = [] → s.linkB.buffers = [] →
        exec .admissionFree s = .next { s with arbiter := { s.arbiter with occupied := false } })
      ∧ (∀ l, (s.link l).buffers = body :: rest → (s.link (otherLink l)).buffers = [] →
        exec .admissionFree s = .next (taken l 0 s.arbiter.runLink))
      ∧ ((s.link s.store.settings.preferredLink).buffers = body :: rest → (s.link other).buffers ≠ [] →
        run < s.store.settings.rotation →
        exec .admissionFree s = .next (taken s.store.settings.preferredLink (run + 1) s.store.settings.preferredLink))
      ∧ ((s.link other).buffers = body :: rest → (s.link s.store.settings.preferredLink).buffers ≠ [] →
        s.store.settings.rotation ≤ run →
        exec .admissionFree s = .next (taken other 0 s.arbiter.runLink)))
    ∧ (∀ t : Settings, (∀ l, t.preferred = .link l → t.preferredLink = l)
      ∧ ∀ c, t.preferred = .unlisted c → t.preferredLink = if Config.unlistedPrefersB c then .b else .a)
    ∧ (otherLink .a = .b ∧ otherLink .b = .a)
    ∧ ∀ (s : State) (l : Link) (body : List Byte),
      let kind := body.getD 0 0
      let dest := body.getD 1 0 ++ body.getD 2 0
      let site := s.store.settings.siteAddress
      let inGroup := ∃ i, s.store.settings.groups.get i = dest
      let handed := fun (a : Addressing) =>
        s.takeRequest (body.getD 4 0) { link := l, addressing := a, dest := dest, tag := body.getD 3 0 } (body.drop 5)
      (kind = 0x61 → s.takeFrame l body = s.takePart l body)
        ∧ (kind ≠ 0x61 → kind ≠ 0x6C → s.takeFrame l body = s.bump (.admission .unknownKind))
        ∧ (kind = 0x6C → body.length < 5 → s.takeFrame l body = s.bump (.admission .unknownKind))
        ∧ (kind = 0x6C → 5 ≤ body.length →
          (dest ≠ 0 → dest = site → s.takeFrame l body = handed .unicast)
            ∧ (dest ≠ 0 → dest ≠ site → inGroup → s.takeFrame l body = handed .group)
            ∧ (dest = 0xFFFF → dest ≠ site → ¬ inGroup → s.takeFrame l body = handed .broadcast)
            ∧ (dest = 0 ∨ (dest ≠ site ∧ ¬ inGroup ∧ dest ≠ 0xFFFF) →
              s.takeFrame l body = s.bump (.admission .foreign)))

/-- The last byte of the head reply: the frame leaves the queue and is counted, and the next begins while the link is UP; a
rate change that waits for this reply is made first, so the next reply goes at the new rate and a frame attempt in progress
ends as BAD_CHAR, by the model's choice also where the code is the one the line runs at (log 43); a multi-frame READ that
waits for a place of this queue has its stall timer started afresh; nothing else changes. An idle transmitter sends nothing
(R70, R72 to R74, R171; log 3, log 19, log 20). -/
def Obligations.SentReplyLeavesTheQueue : Prop :=
  ∀ (l : Link) (s : State),
    let c := s.link l
    let rest := c.replies.drop 1
    let next := fun (code : Nat) => if c.up = true ∧ rest ≠ [] then some code else none
    let engine := match s.engine with
      | .reading op => if op.handed.link = l then .reading { op with stall := 0 } else s.engine
      | _ => s.engine
    let gone := fun (q : CarriageLink) => { (s.setLink l q).bump (.link l .repliesSent) with engine := engine }
    (c.sending = none → exec (.replySent l) s = .next s)
      ∧ (c.sending.isSome = true → c.rateChange = none →
        exec (.replySent l) s = .next (gone { c with replies := rest, sending := next c.lineRate }))
      ∧ ∀ rc : RateChange, c.sending.isSome = true → c.rateChange = some rc →
        (1 < rc.after →
            exec (.replySent l) s = .next (gone { c with
              replies := rest, rateChange := some { code := rc.code, after := rc.after - 1 }
              sending := next c.lineRate }))
          ∧ (rc.after ≤ 1 → c.deframer = .hunt →
            exec (.replySent l) s = .next (gone { c with
              replies := rest, lineRate := rc.code, rateChange := none, sending := next rc.code }))
          ∧ (rc.after ≤ 1 → c.deframer ≠ .hunt →
            exec (.replySent l) s = .next ((gone { c with
              replies := rest, lineRate := rc.code, rateChange := none, sending := next rc.code, deframer := .hunt,
              gapTimer := none }).bump (.link l (.attempt .badChar))))

/-! ### Batch admission -/

/-- The checks of a batch part that come before the table, in their order, each counting its reason and changing nothing
else; a part that passes goes to the one record of its number, or is a new batch (R80 to R85, R95). The structure check is
the seven tests of R82, and the fields of the header stand at the offsets of the batch body (R177). What the sequencer owes
after a taking is done when the whole of it is done (log 30), and what the taking leaves for the event that follows goes to
the front of the queue (log 42): both are the model's readings. A taking that leaves the table, the sequencer and the pacer
as they stood, as every discard does, owes and leaves nothing (R80). -/
def Obligations.PartsAreJudgedInOrder : Prop :=
  (∀ (s : State) (l : Link) (body : List Byte),
    let p := rawPart body
    let timed := s.time.state ≠ .unset ∧ s.time.state ≠ .acquiring false
    let held := ∃ e ∈ s.history, e.number = p.number
    (¬ timed → s.takePart l body = s.bump (.admission .noTime))
      ∧ (timed → structureOk body = false → s.takePart l body = s.bump (.admission .badPart))
      ∧ (timed → structureOk body = true → 10000000 ≤ p.tagTick → s.takePart l body = s.bump (.admission .badTag))
      ∧ (timed → structureOk body = true → p.tagTick < 10000000 → held →
          s.takePart l body = s.bump (.admission .lateCopy))
      ∧ (timed → structureOk body = true → p.tagTick < 10000000 → ¬ held → ∀ i r, s.slotOf p.number = some i →
          s.record i = some r →
          s.takePart l body = State.retireNext s (State.settleKeying s (s.knownBatch i r p l)))
      ∧ (timed → structureOk body = true → p.tagTick < 10000000 → ¬ held → s.slotOf p.number = none →
          s.takePart l body = State.followCreation s (State.settleKeying s (s.newBatch p l)))
      ∧ (∀ n, (s.slotOf n = none ↔ ∀ i r, s.record i = some r → r.number ≠ n)
        ∧ ∀ i, s.slotOf n = some i → ∃ r, s.record i = some r ∧ r.number = n)
      ∧ ∀ t : State, t.table = s.table → t.keying = s.keying → t.pacer = s.pacer →
          State.retireNext s (State.settleKeying s t) = t ∧ State.followCreation s (State.settleKeying s t) = t)
    ∧ (∀ body : List Byte, 18 ≤ body.length →
    let p := rawPart body
    let at' := fun (k : Nat) => (body.getD k 0).toNat
    p.number.toNat = 256 * at' 1 + at' 2 ∧ p.index = at' 3 ∧ p.count = at' 4 ∧ p.zone = at' 5 ∧ p.mode = at' 6
      ∧ p.cls = at' 7
      ∧ p.tagSec.toNat = 16777216 * at' 8 + 65536 * at' 9 + 256 * at' 10 + at' 11
      ∧ p.tagTick = 16777216 * at' 12 + 65536 * at' 13 + 256 * at' 14 + at' 15
      ∧ p.total = 256 * at' 16 + at' 17 ∧ p.symbols = body.drop 18)
    ∧ (∀ body : List Byte,
    let p := rawPart body
    let share := if p.index + 1 = p.count then p.total - 1024 * (p.count - 1) else 1024
    (structureOk body = true ↔
      18 ≤ body.length ∧ (1 ≤ p.count ∧ p.count ≤ 16) ∧ p.index < p.count ∧ (1 ≤ p.total ∧ p.total ≤ 16384)
        ∧ (p.zone ≤ 63 ∧ p.mode ≤ 7 ∧ p.cls ≤ 3)
        ∧ (1024 * (p.count - 1) + 1 ≤ p.total ∧ p.total ≤ 1024 * (p.count - 1) + 1024)
        ∧ body.length = 18 + (share + 3) / 4)
      ∧ (structureOk body = true → p.share = share))

/-- A part whose number a record holds: MISMATCH when one of the seven header fields differs, DUPLICATE when its index is
present, and when it is absent taken to shadow, or stored into a chain of its own with completion judged then, or refused whole
as STORE_FULL (R85, R86, R91, R92, R95, R96, R99). -/
def Obligations.PartOfAKnownBatch : Prop :=
  ∀ (s : State) (i : Slot) (r : Record) (p : RawPart) (l : Link),
    let agrees := r.zone.val = p.zone ∧ r.mode.val = p.mode ∧ r.cls.val = p.cls ∧ r.tag.sec = p.tagSec
      ∧ r.tag.tick.val = p.tagTick ∧ r.total = p.total ∧ r.partCount = p.count
    (¬ agrees → s.knownBatch i r p l = s.bump (.admission .mismatch))
      ∧ (agrees → r.parts.getLsbD p.index = true → s.knownBatch i r p l = s.bump (.admission .duplicate))
      ∧ (agrees → r.parts.getLsbD p.index = false → r.state = .shadow →
          s.knownBatch i r p l =
            ((s.setRecord i { r with
              parts := r.parts ||| (1#16 <<< p.index)
              sourceA := r.sourceA || decide (l = .a)
              sourceB := r.sourceB || decide (l = .b) }).bump (.admission .takenToShadow)).bump (.link l .partsTaken))
      ∧ (agrees → r.parts.getLsbD p.index = false → r.state = .assembling →
          s.symbols.allocate p.share p.symbols = none →
          s.knownBatch i r p l = { s.bump (.admission .storeFull) with latches := s.latches ||| 0x80 })
      ∧ (∀ (h : p.index < 16) (chain : List Block) (store : SymbolStore), agrees → r.parts.getLsbD p.index = false →
          r.state = .assembling → s.symbols.allocate p.share p.symbols = some (chain, store) →
          s.knownBatch i r p l =
            (({ s with symbols := store }.setRecord i { r with
              parts := r.parts ||| (1#16 <<< p.index)
              sourceA := r.sourceA || decide (l = Link.a)
              sourceB := r.sourceB || decide (l = Link.b)
              chains := r.chains.set p.index chain h }).bump (.link l .partsTaken)).completeRecord i)

/-- A new batch: ZONE_OFF, NO_MODE, TOO_EARLY and TABLE_FULL in that order, against the profile its tag second selects, and
otherwise a record in the lowest-numbered FREE slot (R27, R55, R87, R88, R96). A zone mode is OFF, TRACK or LAUNCH as its row
holds it; a code that is none of them, which only a recall can put there, acts as a free one of the three (R22; log 13). Its
creation goes on in order: the resolver, then its part taken to shadow, or stored, or refused as STORE_FULL, with completion
judged then (R89, R91, R92, R99). A record created at exactly its deadline meets it in the event that follows, and one
created SHADOW after its widened end retires in it: that event stands at the front of the queue (R90, R109, R114; log 42). -/
def Obligations.NewBatchIsJudgedInOrder : Prop :=
  (∀ (s : State) (p : RawPart) (l : Link),
    let sel := s.profileFor p.tagSec
    let f := s.store.profiles.get sel.1
    let zone := f.zones.get (Fin.ofNat 64 p.zone)
    let row := f.modes.get (Fin.ofNat 8 p.mode)
    let r := s.newRecord p sel
    let ahead := r.launch.diff s.time.clock
    let limit : Int := s.store.settings.maxLead * 10000000
    (s.store.pending = none → sel = (s.store.active, false))
      ∧ (∀ q, s.store.pending = some q →
          sel = if 0 ≤ secondDiff p.tagSec q.second then (q.target, true) else (s.store.active, false))
      ∧ (zone.mode.acts = .off → s.newBatch p l = s.bump (.admission .zoneOff))
      ∧ (zone.mode.acts ≠ .off → row.rate = 0 → s.newBatch p l = s.bump (.admission .noMode))
      ∧ (zone.mode.acts ≠ .off → row.rate ≠ 0 → limit < ahead → s.newBatch p l = s.bump (.admission .tooEarly))
      ∧ (zone.mode.acts ≠ .off → row.rate ≠ 0 → ahead ≤ limit → (∀ i, s.record i ≠ none) →
          s.newBatch p l =
            { s.bump (.admission .tableFull) with latches := s.latches ||| 0x80 })
      ∧ (∀ i, zone.mode.acts ≠ .off → row.rate ≠ 0 → ahead ≤ limit → s.record i = none →
          (∀ j, j < i → s.record j ≠ none) →
          s.newBatch p l = s.createRecord i (initialState zone.mode.acts s.time.clock r) p l))
    ∧ (ZoneMode.acts .off = .off ∧ ZoneMode.acts .track = .track ∧ ZoneMode.acts .launch = .launch
      ∧ ∀ c, ZoneMode.acts (.unlisted c) =
        if Config.unlistedZone c = 0 then .off else if Config.unlistedZone c = 1 then .track else .launch)
    ∧ (∀ (s : State) (i : Slot) (r q : Record) (p : RawPart) (l : Link),
      let u := (s.setRecord i r).resolve i
      let taken := { q with
        parts := q.parts ||| (1#16 <<< p.index)
        sourceA := q.sourceA || decide (l = .a)
        sourceB := q.sourceB || decide (l = .b) }
      u.record i = some q →
        (q.state = .shadow → s.createRecord i r p l =
            ((u.setRecord i taken).bump (.admission .takenToShadow)).bump (.link l .partsTaken))
          ∧ (q.state ≠ .shadow → u.symbols.allocate p.share p.symbols = none →
            s.createRecord i r p l = { u.bump (.admission .storeFull) with latches := u.latches ||| 0x80 })
          ∧ (∀ (h : p.index < 16) (chain : List Block) (store : SymbolStore), q.state ≠ .shadow →
            u.symbols.allocate p.share p.symbols = some (chain, store) →
            s.createRecord i r p l =
              (({ u with symbols := store }.setRecord i { taken with
                chains := q.chains.set p.index chain h }).bump (.link l .partsTaken)).completeRecord i))
    ∧ ∀ (s v : State) (i : Slot) (r : Record), s.record i = none → v.record i = some r →
      (∀ e, e ≠ i → v.record e = s.record e) → v.keying = s.keying → v.pacer = s.pacer →
        (r.state = .assembling → r.late = false → r.deadline.diff v.time.clock ≤ 0 →
            State.followCreation s v = { v with pending := .deadline i :: v.pending })
          ∧ (r.state = .assembling → r.late = false → 0 < r.deadline.diff v.time.clock → State.followCreation s v = v)
          ∧ (r.state = .shadow → 0 < (r.nominalEnd.add v.store.settings.guard).diff v.time.clock →
            State.followCreation s v = v)
          ∧ (r.state = .shadow → (r.nominalEnd.add v.store.settings.guard).diff v.time.clock ≤ 0 →
            State.followCreation s v = { v with pending := .retirement i :: v.pending })

/-- What a record receives at its creation: the header's number, zone, mode, class, tag, total and part count, with no part
and no source link yet (R88, R106), and O, N, inc, the nominal end, the kept key-up and the deadline, from one reading
of the profile and the settings, and its initial state by the first line that applies (R46 to R48, R50, R53, R54, R56, R88,
R90). A late policy that no table lists, which only a recall can put there, drops or joins by a free value (log 13). -/
def Obligations.CreationFixesTheLaunch : Prop :=
  ∀ (s : State) (p : RawPart) (n : Fin 4) (d : Bool) (zone : ZoneMode) (now : Instant),
    let f := s.store.profiles.get n
    let row := f.modes.get (Fin.ofNat 8 p.mode)
    let r := s.newRecord p (n, d)
    let q := initialState zone now r
    (r.launch = (instantOf p.tagSec p.tagTick).add
          (f.siteOffset + row.offset + (f.zones.get (Fin.ofNat 64 p.zone)).offset)
        ∧ r.row = row ∧ r.profileUsed = n ∧ r.dependent = d
        ∧ r.inc = (row.rate * 4294967296 + 5000000) / 10000000 ∧ r.j = 0 ∧ r.k = p.total ∧ r.total = p.total
        ∧ r.nominalEnd = r.launch.add (ticksOf r.inc p.total)
        ∧ r.keptKeyUp = r.launch.add (-(row.keyLead : Int))
        ∧ r.deadline = r.keptKeyUp.add (-(s.store.settings.setupMargin : Int))
        ∧ r.number = p.number ∧ (p.zone < 64 → r.zone.val = p.zone) ∧ (p.mode < 8 → r.mode.val = p.mode)
        ∧ (p.cls < 4 → r.cls.val = p.cls) ∧ r.tag = instantOf p.tagSec p.tagTick ∧ r.partCount = p.count
        ∧ r.tag.sec = p.tagSec ∧ (p.tagTick < 10000000 → r.tag.tick.val = p.tagTick)
        ∧ (row.late = .drop → row.late.drops = true) ∧ (row.late = .join → row.late.drops = false)
        ∧ (∀ c, row.late = .unlisted c → row.late.drops = Config.unlistedDrops c)
        ∧ r.parts = 0 ∧ r.sourceA = false ∧ r.sourceB = false ∧ r.chains = Vector.replicate 16 [] ∧ r.blocks = []
        ∧ r.sent = 0 ∧ r.stop = none ∧ r.late = false ∧ r.joined = false ∧ r.state = .assembling ∧ r.shadow = none)
      ∧ q = (if zone = .track then { r with state := .shadow, shadow := some .tracked }
          else if r.nominalEnd.diff now ≤ 0 then { r with state := .shadow, shadow := some .droppedLate }
          else if r.deadline.diff now < 0 ∧ row.late.drops = true then
            { r with state := .shadow, shadow := some .droppedLate }
          else { r with state := .assembling, late := decide (r.deadline.diff now < 0) })

/-! ### Symbol store -/

/-- A part is stored whole or not at all: its blocks come off the head of the free list in list order, each reads back the
part's next 64 bytes under its own check code, with unused positions 0, and every other byte of the pool is as it was
(R82, R91, R97 to R99, R103). Block n holds the 64 bytes from address 64 × n of the pool, the model's numbering, and a byte
written reads back while every other byte stays (log 8). -/
def Obligations.StoredPartReadsBack : Prop :=
  (∀ (t : SymbolStore) (p : Nat) (bytes : List Byte), t.memory.wf = true → t.free.Nodup → 1 ≤ p → bytes.length = (p + 3) / 4 →
    (t.free.length < (p + 255) / 256 → t.allocate p bytes = none)
      ∧ ((p + 255) / 256 ≤ t.free.length →
          ∃ u, t.allocate p bytes = some (t.free.take ((p + 255) / 256), u)
            ∧ u.free = t.free.drop ((p + 255) / 256)
            ∧ (∀ (c : Nat) (b : Block), (t.free.take ((p + 255) / 256))[c]? = some b →
                u.checks.get b = crc16 (u.blockBytes b)
                  ∧ ∀ pos, pos < 256 →
                    symbolAt (u.blockBytes b) pos = if 256 * c + pos < p then symbolAt bytes (256 * c + pos) else 0)
            ∧ ∀ b, b ∉ t.free.take ((p + 255) / 256) →
                u.checks.get b = t.checks.get b ∧ u.blockBytes b = t.blockBytes b))
    ∧ (∀ (t : SymbolStore) (b : Block), t.blockBytes b = (List.range 64).map (fun k => t.memory.read (64 * b.val + k)))
    ∧ ∀ (m : Memory) (a : Nat) (v : Byte), m.wf = true → ∀ x, (m.write a v).read x = if x = a then v else m.read x

/-! ### The batch table -/

/-- Becoming SHADOW: the outcome is set once, the blocks go to the tail of the free list in part order, the chains are
absent, and the rest of the record is kept (R101, R107, R114). The launch queue holds exactly the ASSEMBLING and READY
records, each once; its head is the one whose kept key-up is earlier than every other's, or equal and its number the one that
precedes, (Y − X) mod 65 536 in 1 … 32 767 or 32 768 with X the smaller; where all are equal and none precedes every other,
the smallest number; and the rest of the queue is the queue without its head. The head READY record is the first READY record
in it (R93, R108). -/
def Obligations.BecomingShadowReleasesAndKeeps : Prop :=
  (∀ (s : State) (i : Slot) (r : Record) (o : BatchOutcome), s.record i = some r →
    (r.state = .shadow → s.becomeShadow i o = s)
      ∧ (r.state ≠ .shadow →
          (s.becomeShadow i o).record i =
              some { r with state := .shadow, shadow := some o, chains := Vector.replicate 16 [] }
            ∧ (∀ j, j ≠ i → (s.becomeShadow i o).record j = s.record j)
            ∧ i ∉ (s.becomeShadow i o).launchQueue
            ∧ s.becomeShadow i o =
                { s with
                  symbols := { s.symbols with free := s.symbols.free ++ r.chains.toList.flatten }
                  table := (s.becomeShadow i o).table }))
    ∧ ∀ s : State,
      let waits := fun (r : Record) => r.state = .assembling ∨ r.state = .ready
      let before := fun (x y : Word16) =>
        let d := (65536 + y.toNat - x.toNat) % 65536
        (1 ≤ d ∧ d ≤ 32767) ∨ (d = 32768 ∧ x.toNat < y.toNat)
      s.launchQueue.Nodup
        ∧ (∀ i, i ∈ s.launchQueue ↔ ∃ r, s.record i = some r ∧ waits r)
        ∧ (∀ i a, s.record i = some a → waits a →
          (∀ j b, j ≠ i → s.record j = some b → waits b →
            (a.keptKeyUp.diff b.keptKeyUp < 0 ∧ 0 < b.keptKeyUp.diff a.keptKeyUp)
              ∨ (a.keptKeyUp = b.keptKeyUp ∧ before a.number b.number)) →
          s.launchQueue.head? = some i)
        ∧ (∀ i a, s.record i = some a → waits a →
          (∀ j b, j ≠ i → s.record j = some b → waits b →
            a.keptKeyUp = b.keptKeyUp ∧ a.number.toNat < b.number.toNat
              ∧ ∃ e c, e ≠ j ∧ s.record e = some c ∧ waits c ∧ b.number ≠ c.number ∧ ¬ before b.number c.number) →
          s.launchQueue.head? = some i)
        ∧ (∀ i rest, s.launchQueue = i :: rest → (s.freeSlot i).launchQueue = rest)
        ∧ (∀ i, s.headReady = some i ↔
          ∃ ahead behind, s.launchQueue = ahead ++ i :: behind ∧ (∃ r, s.record i = some r ∧ r.state = .ready)
            ∧ ∀ j ∈ ahead, ∀ r, s.record j = some r → r.state ≠ .ready)

/-- The deadline of an ASSEMBLING record whose late mark is clear acts by its late policy, and the kept end of a late one
drops it; for any other record, and before the instant, nothing changes (R109, R110, R112). A READY record whose kept launch
has passed is dropped, and a HOLD for it ends (R113, R146). The clauses in which nothing changes are the model's (log 3).
HOLD ends before its decision in any event in which the bridged record leaves READY or stops being the head READY record, or
that moves its kept launch to more than the bridge limit after the end instant: TAIL is entered with the row of the finished
batch, and the head READY record is decided then if its key-up has come due, but not one whose key-up this event formed again
(R130, R146, R147; log 23). A retirement already due is put at the front of the queue, which is the model's choice (R114; log
42); what `retireNext` adds is said in the statement on retirement. -/
def Obligations.DeadlineAndKeptEndAct : Prop :=
  (∀ (s : State) (i : Slot),
    let same := fun (t : State) => s.keying.state ≠ .hold ∨ s.keying.current ≠ none ∨ s.keying.bridged ≠ s.headReady
      ∨ t.headReady = s.headReady
    (s.record i = none → exec (.deadline i) s = .next s ∧ exec (.keptEndWhileLate i) s = .next s)
      ∧ ∀ r, s.record i = some r →
        let incomplete := s.becomeShadow i .droppedIncomplete
        let late := s.becomeShadow i .droppedLate
        (r.state = .assembling → r.late = false → r.deadline.diff s.time.clock ≤ 0 →
            (r.row.late = .drop →
                exec (.deadline i) s = .next (State.retireNext s (State.settleKeying s incomplete))
                  ∧ (same incomplete → exec (.deadline i) s = .next (State.retireNext s incomplete)))
              ∧ (r.row.late = .join → exec (.deadline i) s = .next (s.setRecord i { r with late := true })))
          ∧ (r.state = .assembling → r.late = true →
              (r.launch.add (ticksOf r.inc r.k)).diff s.time.clock ≤ 0 →
              exec (.keptEndWhileLate i) s = .next (State.retireNext s (State.settleKeying s late))
                ∧ (same late → exec (.keptEndWhileLate i) s = .next (State.retireNext s late)))
          ∧ (r.state ≠ .assembling ∨ r.late = true ∨ 0 < r.deadline.diff s.time.clock →
              exec (.deadline i) s = .next s)
          ∧ (r.state ≠ .assembling ∨ r.late = false
                ∨ 0 < (r.launch.add (ticksOf r.inc r.k)).diff s.time.clock →
              exec (.keptEndWhileLate i) s = .next s))
    ∧ (∀ (s : State) (i : Slot) (r : Record), s.record i = some r →
    let passed := r.state = .ready ∧ (r.launch.add (ticksOf r.inc r.j)).diff s.time.clock < 0
    let dropped := s.becomeShadow i .droppedLate
    (passed → exec (.missedLaunch i) s = .next (State.retireNext s (State.settleKeying s dropped)))
      ∧ (passed → s.keying.state ≠ .hold ∨ s.keying.current ≠ none
          ∨ (s.keying.bridged ≠ some i ∧ (s.keying.bridged ≠ s.headReady ∨ dropped.headReady = s.headReady)) →
        exec (.missedLaunch i) s = .next (State.retireNext s dropped))
      ∧ (passed → s.keying.state = .hold → s.keying.current = none → s.keying.bridged = some i →
          s.keying.endInstant ≠ none →
          ∃ t, exec (.missedLaunch i) s = .next t ∧ t.record i = dropped.record i
            ∧ t.keying.bridged = none ∧ t.keying.state ≠ .hold)
      ∧ (¬ passed → exec (.missedLaunch i) s = .next s))
    ∧ ∀ (before s : State) (i : Slot) (r r0 : Record) (e : Instant) (row : ModeRow), before.keying.state = .hold →
      s.keying.state = .hold → s.keying.current = none → s.keying.bridged = some i → s.keying.endInstant = some e →
      s.keying.restRow = some row → 1 ≤ row.tail → row.tail ≤ 1000000 → s.record i = some r →
      before.record i = some r0 →
      let ended := (r0.state = .ready ∧ r.state ≠ .ready)
        ∨ (before.headReady = some i ∧ s.headReady ≠ some i)
        ∨ (r.j ≠ r0.j ∧ (s.store.settings.bridgeLimit : Int) < (r.launch.add (ticksOf r.inc r.j)).diff e)
      let tailed : State := { s with keying := { s.keying with
        state := .tail, current := none, bridged := none, endInstant := none,
        tailEnd := some (s.time.clock.add row.tail) } }
      (¬ ended → State.settleKeying before s = s)
        ∧ (ended → (∀ j, s.keyUpReached j = false) → State.settleKeying before s = tailed)
        ∧ ∀ b q q0, ended → s.headReady = some b → s.record b = some q → before.record b = some q0 →
          (q.keptKeyUp ≠ q0.keptKeyUp → State.settleKeying before s = tailed)
            ∧ (q.keptKeyUp = q0.keptKeyUp → q.keptKeyUp.diff s.time.clock ≤ 0 →
              0 ≤ (q.launch.add (ticksOf q.inc q.j)).diff s.time.clock →
              exec (.keyUp b) tailed = .next (State.retireNext tailed (State.settleKeying before s)))

/-- The part that makes a record complete: READY when its late mark is clear; when it is set, the join rule starts it at
the first boundary it can still reach, or drops it (R92, R111). -/
def Obligations.CompletionGoesThroughTheJoinRule : Prop :=
  ∀ (s : State) (i : Slot) (r : Record), s.record i = some r → r.state = .assembling →
    let complete := ∀ n, n < r.partCount → r.parts.getLsbD n = true
    let margin := s.store.settings.setupMargin
    let start := s.time.clock.add ((margin : Int) + (r.row.keyLead : Int))
    let j := max (firstBoundary r.inc (start.diff r.launch)) r.j
    let keyUp := (r.launch.add (ticksOf r.inc j)).add (-(r.row.keyLead : Int))
    (¬ complete → s.completeRecord i = s)
      ∧ (complete → r.late = false → s.completeRecord i = s.setRecord i { r with state := .ready })
      ∧ (complete → r.late = true → ((r.k : Int) - j < r.row.joinMin ∨ r.k ≤ j) →
          s.completeRecord i = s.becomeShadow i .droppedLate)
      ∧ (complete → r.late = true → (r.row.joinMin : Int) ≤ (r.k : Int) - j → j < r.k →
          s.completeRecord i = s.setRecord i { r with
            j := j
            keptKeyUp := keyUp
            deadline := keyUp.add (-(margin : Int))
            state := .ready
            joined := r.joined || decide (r.j < j) })

/-- A SHADOW record retires when its nominal end widened by the guard, as the guard stands, is reached: one event that
appends its entry, counts its outcome, releases what blocks it holds, and frees its slot (R50, R115, R117, R168, R169);
before that the command changes nothing (log 3). The entry holds the smaller of j and n, as it is shown (R180; log 36). A
record that an event made SHADOW when its retirement instant had already come due retires in the event that follows, which
goes to the front of the queue (R114; log 42). -/
def Obligations.RetirementMovesARecordToTheHistory : Prop :=
  (∀ (s : State) (i : Slot) (r : Record) (o : BatchOutcome), s.record i = some r → r.state = .shadow →
    r.shadow = some o →
    let widened := r.nominalEnd.add s.store.settings.guard
    (widened.diff s.time.clock ≤ 0 →
        ∃ t, exec (.retirement i) s = .next t
          ∧ t.record i = none ∧ (∀ j, j ≠ i → t.record j = s.record j)
          ∧ t.history = (if s.history.length < 64 then s.history else s.history.drop 1) ++
              [{ number := r.number, zone := r.zone, mode := r.mode, cls := r.cls, outcome := o, sourceA := r.sourceA,
                 sourceB := r.sourceB, launch := r.launch, j := min r.j r.total, sent := r.sent }]
          ∧ t.counters = (s.bump (.outcome o)).counters
          ∧ t.symbols = { s.symbols with free := s.symbols.free ++ r.chains.toList.flatten }
          ∧ t.time = s.time ∧ t.store = s.store ∧ t.linkA = s.linkA ∧ t.linkB = s.linkB ∧ t.arbiter = s.arbiter
          ∧ t.keying = s.keying ∧ t.pacer = s.pacer ∧ t.engine = s.engine ∧ t.latches = s.latches)
      ∧ (0 < widened.diff s.time.clock → exec (.retirement i) s = .next s))
    ∧ ∀ before s : State, ∃ cs : List Instr,
      State.retireNext before s = { s with pending := cs ++ s.pending } ∧ cs.Nodup
        ∧ ∀ c, c ∈ cs ↔ ∃ i r, c = .retirement i ∧ s.record i = some r ∧ r.state = .shadow
          ∧ (r.nominalEnd.add s.store.settings.guard).diff s.time.clock ≤ 0
          ∧ ∀ q, before.record i = some q → q.state ≠ .shadow

/-! ### Air-time conflicts -/

/-- A waiting or KEYING loser: a head winner raises its j past the widened end and its key-up and deadline are formed again,
a tail winner lowers its k to the last boundary a guard before it, and a changed range that is too short or empty, or cut at
its head under DROP, drops the loser (R127 to R129, R53, R54). A loser on the air is cut ahead of the symbol in progress or
not at all: a trim that cannot be made drops its winner instead. A SHADOW loser is not trimmed (R131, R132). The run of the
resolver: the guard is read once, the new record is trimmed against each record that conflicts with it and wins, then each
that conflicts and loses is trimmed against it, in slot order, each as it stands by then; where none conflicts, nothing
changes (R124). The first pass's order is the model's choice (log 24). A loser dropped out of KEYING takes the sequencer to
TAIL, from LEAD with its own row put out again, from HOLD with that of the finished batch (R129, R148). What the creation
leaves for the event that follows, of the new record and of those trimmed: a deadline, kept end or key-up formed again to an
instant already reached, a launch already passed, a retirement already due, and the read of the block of a KEYING record's
raised j (R114, R130, R141). They go to the front of the queue (log 42). -/
def Obligations.LoserIsTrimmedByItsState : Prop :=
  (∀ (s : State) (g : Nat) (i iw : Slot) (w l : Record), l.state = .assembling ∨ l.state = .ready ∨ l.state = .keying →
    let head := firstBoundary l.inc ((w.nominalEnd.add g).diff l.launch)
    let keyUp := (l.launch.add (ticksOf l.inc head)).add (-(l.row.keyLead : Int))
    let raised := { l with
      j := head, keptKeyUp := keyUp, deadline := keyUp.add (-(s.store.settings.setupMargin : Int)) }
    let tail := lastBoundary l.inc ((w.launch.add (-(g : Int))).diff l.launch)
    let lowered := { l with k := tail }
    (w.launch.diff l.launch ≤ 0 → head ≤ l.j → s.trim g i iw w l = s)
      ∧ (w.launch.diff l.launch ≤ 0 → l.j < head →
          ((l.k : Int) - head < l.row.joinMin ∨ l.k ≤ head ∨ l.row.late = .drop →
              s.trim g i iw w l = (s.setRecord i raised).dropRecord i .droppedConflict)
            ∧ ((l.row.joinMin : Int) ≤ (l.k : Int) - head → head < l.k → l.row.late = .join →
              s.trim g i iw w l = s.setRecord i raised))
      ∧ (0 < w.launch.diff l.launch → l.k ≤ tail → s.trim g i iw w l = s)
      ∧ (0 < w.launch.diff l.launch → tail < l.k →
          (((tail : Int) - l.j < l.row.joinMin ∨ tail ≤ l.j ∨ (0 < l.j ∧ l.row.late = .drop)) →
              s.trim g i iw w l = (s.setRecord i lowered).dropRecord i .droppedConflict)
            ∧ ((l.row.joinMin : Int) ≤ (tail : Int) - l.j → l.j < tail → (l.j = 0 ∨ l.row.late = .join) →
              s.trim g i iw w l = s.setRecord i lowered)))
    ∧ (∀ (s : State) (g : Nat) (i iw : Slot) (w l : Record),
    let head := firstBoundary l.inc ((w.nominalEnd.add g).diff l.launch)
    let tail := lastBoundary l.inc ((w.launch.add (-(g : Int))).diff l.launch)
    (l.state = .shadow → s.trim g i iw w l = s)
      ∧ (l.state = .onAir → w.launch.diff l.launch ≤ 0 → head ≤ l.j → s.trim g i iw w l = s)
      ∧ (l.state = .onAir → w.launch.diff l.launch ≤ 0 → l.j < head →
          s.trim g i iw w l = s.becomeShadow iw .droppedLate)
      ∧ (l.state = .onAir → 0 < w.launch.diff l.launch → l.k ≤ tail → s.trim g i iw w l = s)
      ∧ (l.state = .onAir → 0 < w.launch.diff l.launch → tail < l.k → s.pacer.symbol < tail →
          s.trim g i iw w l = s.setRecord i { l with k := tail })
      ∧ (l.state = .onAir → 0 < w.launch.diff l.launch → tail < l.k → tail ≤ s.pacer.symbol →
          s.trim g i iw w l = s.becomeShadow iw .droppedLate))
    ∧ (∀ (s : State) (i : Slot) (r : Record) (o : BatchOutcome), s.record i = some r →
      let shadowed := s.becomeShadow i o
      (r.state ≠ .keying → s.dropRecord i o = shadowed)
        ∧ (r.state = .keying → s.keying.state = .lead → s.dropRecord i o = { shadowed with keying := { s.keying with
          state := .tail, current := none, bridged := none, restRow := some r.row, endInstant := none,
          tailEnd := some (s.time.clock.add r.row.tail), mod := r.row.rest, modstb := true } })
        ∧ ∀ row, r.state = .keying → s.keying.state = .hold → s.keying.restRow = some row →
          s.dropRecord i o = { shadowed with keying := { s.keying with
            state := .tail, current := none, bridged := none, endInstant := none,
            tailEnd := some (s.time.clock.add row.tail) } })
    ∧ allSlots = List.finRange 32
    ∧ (∀ (s : State) (new : Slot), s.resolve new =
        allSlots.foldl (fun u e => State.secondPass s.store.settings.guard new u e)
          (allSlots.foldl (fun u e => State.firstPass s.store.settings.guard new u e) s))
    ∧ (∀ (s : State) (g : Nat) (new e : Slot) (n x : Record), e ≠ new → s.record new = some n → s.record e = some x →
      let oldWins := conflict g n x = true ∧ wins x n = true
      let newWins := conflict g n x = true ∧ wins n x = true
      (oldWins → State.firstPass g new s e = s.trim g new e x n)
        ∧ (¬ oldWins → State.firstPass g new s e = s)
        ∧ (newWins → State.secondPass g new s e = s.trim g e new n x)
        ∧ (¬ newWins → State.secondPass g new s e = s))
    ∧ (∀ (s : State) (g : Nat) (new e : Slot), e = new ∨ s.record e = none →
      State.firstPass g new s e = s ∧ State.secondPass g new s e = s)
    ∧ (∀ (s : State) (new : Slot) (n : Record), s.record new = some n →
      (∀ e x, e ≠ new → s.record e = some x → conflict s.store.settings.guard n x = false) → s.resolve new = s)
    ∧ ∀ before s : State, ∃ cs : List Instr,
      State.followCreation before s = { s with pending := cs ++ s.pending }
        ∧ ∀ c, c ∈ cs ↔
          (c = .blockRead ∧ .blockRead ∈ s.dueEvents ∧ .blockRead ∉ before.dueEvents)
            ∨ ∃ i r, s.record i = some r ∧
              let was := before.record i
              let launch := (r.launch.add (ticksOf r.inc r.j)).diff s.time.clock
              (c = .deadline i ∧ r.state = .assembling ∧ r.late = false ∧ r.deadline.diff s.time.clock ≤ 0
                  ∧ was.map (·.deadline) ≠ some r.deadline)
                ∨ (c = .keptEndWhileLate i ∧ r.state = .assembling ∧ r.late = true
                  ∧ (r.launch.add (ticksOf r.inc r.k)).diff s.time.clock ≤ 0 ∧ was.map (·.k) ≠ some r.k)
                ∨ (c = .missedLaunch i ∧ r.state = .ready ∧ launch < 0 ∧ was.map (·.j) ≠ some r.j)
                ∨ (c = .keyUp i ∧ r.state = .ready ∧ r.keptKeyUp.diff s.time.clock ≤ 0 ∧ 0 ≤ launch
                  ∧ was.map (·.keptKeyUp) ≠ some r.keptKeyUp)
                ∨ (c = .retirement i ∧ r.state = .shadow
                  ∧ (r.nominalEnd.add s.store.settings.guard).diff s.time.clock ≤ 0
                  ∧ ∀ q, was = some q → q.state ≠ .shadow)

/-! ### Keying and symbol pacing -/

/-- The launch gate: open in LOCKED, and in HOLDOVER and ACQUIRING with an estimate while ceil(U / 1000) does not exceed the
mode's tolerance (R16). The key-up decision from IDLE or TAIL: MUTED with the gate closed, NOT_READY with TXRDY false, and
otherwise KEYING with the block of symbol j read, the rest level out and KEY asserted; a read fault drops the record into
TAIL (R103, R104, R138 to R141, R148). In HOLD, for the bridged record: KEYING without a word put out; refused or faulted,
TAIL with the rest row of the finished batch (R145). A kept launch already reached starts the symbols in the same event, and
a tail of 0 ends in it (R141, R147). After a decision that makes its record SHADOW the new head READY record is decided in
the event that follows, if its key-up has come due, and a retirement already due follows before it: both at the front of the
queue, the model's choice (R114, R139; log 22, log 42). -/
def Obligations.KeyUpIsDecidedInThreeSteps : Prop :=
  (∀ (s : State) (row : ModeRow), s.gateOpen row = true ↔
    s.time.state = .locked
      ∨ ((s.time.state = .holdover ∨ s.time.state = .acquiring true) ∧ (s.time.u + 999) / 1000 ≤ row.tolerance))
    ∧ (∀ (s : State) (i : Slot), s.keyUpReached i = true ↔ ∃ r, s.record i = some r ∧ r.state = .ready
      ∧ r.keptKeyUp.diff s.time.clock ≤ 0 ∧ 0 ≤ (r.launch.add (ticksOf r.inc r.j)).diff s.time.clock)
    ∧ (∀ (s : State) (r : Record) (b : Nat) (n : Block), r.blockOf b = some n →
      s.readBlock r b = if crc16 (s.symbols.blockBytes n) = s.symbols.checks.get n then
        some { index := b, bytes := s.symbols.blockBytes n } else none)
    ∧ (∀ (s : State) (r : Record) (b : Nat), r.blockOf b = none → s.readBlock r b = none)
    ∧ (∀ t : State, t.headReady = none → t.considerNext = t)
    ∧ (∀ (t : State) (b : Slot) (q : Record), t.headReady = some b → t.record b = some q →
      let launch := (q.launch.add (ticksOf q.inc q.j)).diff t.time.clock
      (t.keying.state = .idle ∨ t.keying.state = .tail → q.keptKeyUp.diff t.time.clock ≤ 0 → 0 ≤ launch →
          t.considerNext = { t with pending := .keyUp b :: t.pending })
        ∧ (0 < q.keptKeyUp.diff t.time.clock ∨ launch < 0 → t.considerNext = t))
    ∧ (∀ (s : State) (i : Slot) (r : Record), s.record i = some r → r.state = .ready →
    r.keptKeyUp.diff s.time.clock ≤ 0 → 0 ≤ (r.launch.add (ticksOf r.inc r.j)).diff s.time.clock →
    s.headReady = some i → s.keying.state = .idle ∨ s.keying.state = .tail →
    let next := fun (t : State) => State.retireNext s t.considerNext
    let idle : Sequencer :=
      { state := .idle, current := none, bridged := none, restRow := none, endInstant := none, tailEnd := none,
        mod := 0, modstb := true, txrdy := true }
    let lead : Sequencer :=
      { state := .lead, current := some i, bridged := none, restRow := some r.row, endInstant := none, tailEnd := none,
        mod := r.row.rest, modstb := true, txrdy := true }
    let faulted := { s with latches := s.latches ||| 0x40 }.becomeShadow i .storeFault
    (s.gateOpen r.row = false →
        exec (.keyUp i) s = .next (next ({ s with latches := s.latches ||| 0x10 }.becomeShadow i .muted)))
      ∧ (s.gateOpen r.row = true → s.keying.txrdy = false →
        exec (.keyUp i) s = .next (next ({ s with latches := s.latches ||| 0x20 }.becomeShadow i .notReady)))
      ∧ (s.gateOpen r.row = true → s.keying.txrdy = true → ∀ img, s.readBlock r (r.j / 256) = some img →
        0 < (r.launch.add (ticksOf r.inc r.j)).diff s.time.clock →
        ∃ t, exec (.keyUp i) s = .next t ∧ t.pacer.block = some img
          ∧ t = { s.setRecord i { r with state := .keying } with keying := lead, pacer := t.pacer })
      ∧ (s.gateOpen r.row = true → s.keying.txrdy = true → ∀ img, s.readBlock r (r.j / 256) = some img →
        (r.launch.add (ticksOf r.inc r.j)).diff s.time.clock = 0 →
        ∃ t, exec (.keyUp i) s = .next t ∧ t.record i = some { r with state := .onAir, sent := r.sent + 1 }
          ∧ t.keying.state = .symbols ∧ t.keying.current = some i ∧ t.keying.modstb = true
          ∧ t.pacer.symbol = r.j ∧ t.pacer.acc = preloadOf r.inc r.j)
      ∧ (s.gateOpen r.row = true → s.keying.txrdy = true → s.readBlock r (r.j / 256) = none →
        1 ≤ r.row.tail → r.row.tail ≤ 1000000 →
        exec (.keyUp i) s = .next (next { faulted with keying := { lead with
          state := .tail, current := none, tailEnd := some (s.time.clock.add r.row.tail) } }))
      ∧ (s.gateOpen r.row = true → s.keying.txrdy = true → s.readBlock r (r.j / 256) = none → r.row.tail = 0 →
        exec (.keyUp i) s = .next (next { faulted with keying := idle })))
    ∧ ∀ (s : State) (i : Slot) (r : Record) (row : ModeRow), s.record i = some r → r.state = .ready →
    r.keptKeyUp.diff s.time.clock ≤ 0 → 0 ≤ (r.launch.add (ticksOf r.inc r.j)).diff s.time.clock →
    s.headReady = some i → s.keying.state = .hold → s.keying.current = none → s.keying.bridged = some i →
    s.keying.restRow = some row → row.tail ≤ 1000000 →
    let next := fun (t : State) => State.retireNext s t.considerNext
    let after : Sequencer := if row.tail = 0 then
        { state := .idle, current := none, bridged := none, restRow := none, endInstant := none, tailEnd := none,
          mod := 0, modstb := true, txrdy := s.keying.txrdy }
      else { s.keying with
        state := .tail, current := none, bridged := none, endInstant := none,
        tailEnd := some (s.time.clock.add row.tail) }
    (s.gateOpen r.row = true → s.keying.txrdy = true → ∀ img, s.readBlock r (r.j / 256) = some img →
        0 < (r.launch.add (ticksOf r.inc r.j)).diff s.time.clock →
        ∃ t, exec (.keyUp i) s = .next t ∧ t.pacer.block = some img
          ∧ t = { s.setRecord i { r with state := .keying } with
                  keying := { s.keying with current := some i, bridged := none }, pacer := t.pacer })
      ∧ (s.gateOpen r.row = true → s.keying.txrdy = true → ∀ img, s.readBlock r (r.j / 256) = some img →
        (r.launch.add (ticksOf r.inc r.j)).diff s.time.clock = 0 →
        ∃ t, exec (.keyUp i) s = .next t ∧ t.record i = some { r with state := .onAir, sent := r.sent + 1 }
          ∧ t.keying.state = .symbols ∧ t.keying.current = some i ∧ t.keying.bridged = none
          ∧ t.keying.restRow = some r.row ∧ t.keying.modstb = true
          ∧ t.pacer.symbol = r.j ∧ t.pacer.acc = preloadOf r.inc r.j)
      ∧ (s.gateOpen r.row = false →
        exec (.keyUp i) s = .next (next
          { { s with latches := s.latches ||| 0x10 }.becomeShadow i .muted with keying := after }))
      ∧ (s.gateOpen r.row = true → s.keying.txrdy = false →
        exec (.keyUp i) s = .next (next
          { { s with latches := s.latches ||| 0x20 }.becomeShadow i .notReady with keying := after }))
      ∧ (s.gateOpen r.row = true → s.keying.txrdy = true → s.readBlock r (r.j / 256) = none →
        exec (.keyUp i) s = .next (next
          { { s with latches := s.latches ||| 0x40 }.becomeShadow i .storeFault with keying := after }))

/-- The kept launch of the KEYING record, in LEAD or HOLD, starts its symbols: ON_AIR with symbol j counted and put out under
its preload, and nothing else changed; the rest row is then the record's (R57, R141, R145; log 32). A carry short of the kept
end and of any stop puts out the next symbol's level and counts it, moving to the next block at a block's end; level set TWO
puts out the binary pair alone, and one that no table lists is either, by a free value (R58, R103, R142, R143; log 13, log
25, log 35). Batch symbol m lies in part floor(m / 1024), in the entry of that part's chain and at the position that R100
gives, four symbols to a byte, the first in the two most significant bits (R97). The pacer takes it from the block read that
holds it, and out of the store where none was read (log 35). -/
def Obligations.CarryPutsOutTheNextSymbol : Prop :=
  (∀ (s : State) (i : Slot) (r : Record), s.keying.state = .symbols → 4294967296 ≤ s.pacer.acc →
    s.keying.current = some i → s.record i = some r → s.pacer.symbol + 1 < r.k →
    (∀ st, r.stop = some st → s.pacer.symbol < st.symbol) →
    let m := s.pacer.symbol + 1
    exec .pacerCarry s = .next { s.setRecord i { r with sent := r.sent + 1 } with
      pacer :=
        { acc := ((s.pacer.acc : Int) - 4294967296).toNat, symbol := m,
          block := if m % 256 = 0 then s.pacer.next else s.pacer.block,
          next := if m % 256 = 0 then none else s.pacer.next }
      keying := { s.keying with mod := levelWord r.row (s.symbolValue r m), modstb := true } })
    ∧ (∀ (row : ModeRow) (v : Fin 4),
      (row.levelSet = .four → levelWord row v.val = row.levels.get v)
        ∧ (row.levelSet = .two → levelWord row v.val = if v.val < 2 then row.levels.get 0 else row.levels.get 3)
        ∧ (∀ c, row.levelSet = .unlisted c → levelWord row v.val =
          if Config.unlistedFour c then row.levels.get v else if v.val < 2 then row.levels.get 0 else row.levels.get 3))
    ∧ (∀ (s : State) (i : Slot) (r : Record), s.keying.state = .lead ∨ s.keying.state = .hold → s.keying.current = some i →
      s.record i = some r → r.state = .keying → (r.launch.add (ticksOf r.inc r.j)).diff s.time.clock ≤ 0 →
        exec .launch s = .next { s.setRecord i { r with state := .onAir, sent := r.sent + 1 } with
          keying :=
            { state := .symbols, current := some i, bridged := none, restRow := some r.row, endInstant := none,
              tailEnd := none, mod := levelWord r.row (s.symbolValue r r.j), modstb := true, txrdy := s.keying.txrdy }
          pacer := { s.pacer with acc := preloadOf r.inc r.j, symbol := r.j } })
    ∧ (∀ (bytes : List Byte) (pos : Nat), symbolAt bytes pos =
      let b := bytes.getD (pos / 4) 0
      2 * (b.getLsbD (7 - 2 * (pos % 4))).toNat + (b.getLsbD (6 - 2 * (pos % 4))).toNat)
    ∧ (∀ (r : Record) (m : Nat) (h : m / 1024 < 16),
      r.blockOf (m / 256) = (r.chains.get ⟨m / 1024, h⟩)[(m - 1024 * (m / 1024)) / 256]?)
    ∧ ∀ (s : State) (r : Record) (m : Nat),
      let holds := fun (o : Option BlockImage) => o.map (·.index) = some (m / 256)
      (∀ img, s.pacer.block = some img → img.index = m / 256 → s.symbolValue r m = symbolAt img.bytes (m % 256))
        ∧ (∀ img, ¬ holds s.pacer.block → s.pacer.next = some img → img.index = m / 256 →
          s.symbolValue r m = symbolAt img.bytes (m % 256))
        ∧ ∀ n, ¬ holds s.pacer.block → ¬ holds s.pacer.next → r.blockOf (m / 256) = some n →
          s.symbolValue r m = symbolAt (s.symbols.blockBytes n) (m % 256)

/-- The carry after the last kept symbol: the record retires as LAUNCHED, JOINED or TRIMMED, and the sequencer bridges to a
READY record whose launch is within the bridge limit, or enters TAIL, and decides the head READY record in the same event
when its key-up has come due; a tail of 0 ends in the event (R116, R117, R139, R144, R147, R168, R169). The carry that ends a
stop symbol: SHADOW with the outcome that set the stop, no symbol put out and no retirement, and TAIL as after any entry
(R104, R119, R149). Where the record's retirement is already due it follows, put at the front of the queue, which is the
model's choice (R114; log 42). -/
def Obligations.LastCarryEndsTheRecord : Prop :=
  (∀ (s : State) (i : Slot) (r : Record), s.keying.state = .symbols → 4294967296 ≤ s.pacer.acc →
    s.keying.current = some i → s.record i = some r → r.stop = none → r.k ≤ s.pacer.symbol + 1 →
    let o : BatchOutcome := if r.j = 0 ∧ r.k = r.total then .launched else if r.joined then .joined else .trimmed
    let retired := s.retire i r o
    let entered := fun (q : Sequencer) => { retired with
      keying := q, pacer := { s.pacer with acc := ((s.pacer.acc : Int) - 4294967296).toNat } }
    let rest : Sequencer := { s.keying with
      current := none, bridged := none, restRow := some r.row, mod := r.row.rest, modstb := true }
    let idle : Sequencer :=
      { state := .idle, current := none, bridged := none, restRow := none, endInstant := none, tailEnd := none,
        mod := 0, modstb := true, txrdy := s.keying.txrdy }
    let tailed := entered { rest with
      state := .tail, endInstant := none, tailEnd := some (s.time.clock.add r.row.tail) }
    ∃ t, exec .pacerCarry s = .next t
      ∧ t.record i = none
      ∧ t.history = (if s.history.length < 64 then s.history else s.history.drop 1) ++
          [{ number := r.number, zone := r.zone, mode := r.mode, cls := r.cls, outcome := o, sourceA := r.sourceA,
             sourceB := r.sourceB, launch := r.launch, j := min r.j r.total, sent := r.sent }]
      ∧ retired = { s with
          symbols := { s.symbols with free := s.symbols.free ++ r.chains.toList.flatten }
          table := retired.table, history := t.history, counters := t.counters }
      ∧ retired.record i = none ∧ (∀ e, e ≠ i → retired.record e = s.record e)
      ∧ t.counters = (s.bump (.outcome o)).counters
      ∧ (retired.headReady = none → 1 ≤ r.row.tail → r.row.tail ≤ 1000000 → t = tailed)
      ∧ (retired.headReady = none → r.row.tail = 0 → t = entered idle)
      ∧ ∀ b q, retired.headReady = some b → s.record b = some q →
        let ahead := (q.launch.add (ticksOf q.inc q.j)).diff s.time.clock
        let limit : Int := s.store.settings.bridgeLimit
        let keyUp := q.keptKeyUp.diff s.time.clock
        let held := entered { rest with
          state := .hold, bridged := some b, endInstant := some s.time.clock, tailEnd := none }
        (0 ≤ ahead → ahead ≤ limit → 0 < keyUp → t = held)
          ∧ (0 ≤ ahead → ahead ≤ limit → keyUp ≤ 0 → exec (.keyUp b) held = .next t)
          ∧ (limit < ahead → 0 < keyUp → 1 ≤ r.row.tail → r.row.tail ≤ 1000000 → t = tailed)
          ∧ (limit < ahead → 0 < keyUp → r.row.tail = 0 → t = entered idle)
          ∧ (limit < ahead → keyUp ≤ 0 → 1 ≤ r.row.tail → r.row.tail ≤ 1000000 →
            exec (.keyUp b) tailed = .next t)
          ∧ (limit < ahead → keyUp ≤ 0 → r.row.tail = 0 → s.gateOpen q.row = true → s.keying.txrdy = true →
            exec (.keyUp b) tailed = .next t)
          ∧ (limit < ahead → keyUp ≤ 0 → r.row.tail = 0 → s.gateOpen q.row = false ∨ s.keying.txrdy = false →
            (∃ p, t.record b = some p ∧ p.state = .shadow)
              ∧ ∀ u, exec (.keyUp b) tailed = .next u → t = { u with keying := idle }))
    ∧ (∀ (s : State) (i : Slot) (r : Record) (st : Stop), s.keying.state = .symbols → 4294967296 ≤ s.pacer.acc →
    s.keying.current = some i → s.record i = some r → r.state = .onAir → r.stop = some st →
    st.symbol ≤ s.pacer.symbol →
    let entered := fun (q : Sequencer) => { s.becomeShadow i st.outcome with
      keying := q, pacer := { s.pacer with acc := ((s.pacer.acc : Int) - 4294967296).toNat } }
    let tailed := entered { s.keying with
      state := .tail, current := none, bridged := none, restRow := some r.row, endInstant := none,
      tailEnd := some (s.time.clock.add r.row.tail), mod := r.row.rest, modstb := true }
    let idle : Sequencer :=
      { state := .idle, current := none, bridged := none, restRow := none, endInstant := none, tailEnd := none,
        mod := 0, modstb := true, txrdy := s.keying.txrdy }
    ∃ t, exec .pacerCarry s = .next t
      ∧ t.record i =
          some { r with state := .shadow, shadow := some st.outcome, chains := Vector.replicate 16 [] }
      ∧ t.history = s.history ∧ t.counters = s.counters
      ∧ ((∀ j, s.keyUpReached j = false) → 1 ≤ r.row.tail → r.row.tail ≤ 1000000 → t = State.retireNext s tailed)
      ∧ ((∀ j, s.keyUpReached j = false) → r.row.tail = 0 → t = State.retireNext s (entered idle))
      ∧ ∀ b q, s.headReady = some b → s.record b = some q → q.keptKeyUp.diff s.time.clock ≤ 0 →
        0 ≤ (q.launch.add (ticksOf q.inc q.j)).diff s.time.clock → r.row.tail ≤ 1000000 →
        0 < (r.nominalEnd.add s.store.settings.guard).diff s.time.clock →
        (1 ≤ r.row.tail ∨ (s.gateOpen q.row = true ∧ s.keying.txrdy = true) → exec (.keyUp b) tailed = .next t)
          ∧ (r.row.tail = 0 → s.gateOpen q.row = false ∨ s.keying.txrdy = false →
            ∀ u, exec (.keyUp b) tailed = .next u → t = { u with keying := idle }))

/-- The read of the next block as the last symbol of the block before begins: held for the pacer when its check agrees, and
otherwise a read fault that sets the stop after the symbol in progress and latches STORE. No block at or beyond k is read,
and none after a stop (R103, R104; log 3). Before the launch, the block of a j that a trim raised is read when it is not the
block already read, and a fault there is handled as one at the key-up decision: SHADOW as STORE_FAULT, and TAIL, from LEAD
with the record's own row and from HOLD with that of the finished batch; in that event the head READY record is decided where
its key-up has come due, and a tail of 0 ends (R139, R141, R146 to R148). Where the record's retirement is already due it
follows, put at the front of the queue, which is the model's choice (R114; log 42). -/
def Obligations.NextBlockIsReadOrFaults : Prop :=
  (∀ (s : State) (i : Slot) (r : Record), s.keying.state = .symbols → s.keying.current = some i → s.record i = some r →
    r.state = .onAir → s.pacer.symbol % 256 = 255 → s.pacer.next = none →
    let b := s.pacer.symbol / 256 + 1
    (256 * b < r.k → r.stop = none → ∀ n, r.blockOf b = some n →
        (crc16 (s.symbols.blockBytes n) = s.symbols.checks.get n →
            exec .blockRead s = .next { s with pacer := { s.pacer with
              next := some { index := b, bytes := s.symbols.blockBytes n } } })
          ∧ (crc16 (s.symbols.blockBytes n) ≠ s.symbols.checks.get n →
            exec .blockRead s = .next { s.setRecord i { r with
              stop := some { symbol := s.pacer.symbol, outcome := .storeFault } } with
                latches := s.latches ||| 0x40 }))
      ∧ (r.k ≤ 256 * b ∨ r.stop ≠ none → exec .blockRead s = .next s))
    ∧ ∀ (s : State) (i : Slot) (r : Record), s.keying.current = some i → s.record i = some r → r.state = .keying →
      let b := r.j / 256
      let wanted := s.pacer.block.map (·.index) ≠ some b
      let sound := ∃ n, r.blockOf b = some n ∧ crc16 (s.symbols.blockBytes n) = s.symbols.checks.get n
      let faulted := { s with latches := s.latches ||| 0x40 }.becomeShadow i .storeFault
      (s.blockWanted.isSome = true ↔ wanted)
        ∧ (¬ wanted → exec .blockRead s = .next s)
        ∧ (∀ n, wanted → r.blockOf b = some n → crc16 (s.symbols.blockBytes n) = s.symbols.checks.get n →
          exec .blockRead s = .next { s with pacer := { s.pacer with
            block := some { index := b, bytes := s.symbols.blockBytes n }, next := none } })
        ∧ ∀ (row : ModeRow) (rest : Sequencer), wanted → ¬ sound →
          (s.keying.state = .lead ∧ row = r.row
              ∧ rest = { s.keying with restRow := some r.row, mod := r.row.rest, modstb := true })
            ∨ (s.keying.state = .hold ∧ s.keying.restRow = some row ∧ rest = s.keying) →
          row.tail ≤ 1000000 →
          let tailed := { faulted with keying := { rest with
            state := .tail, current := none, bridged := none, endInstant := none,
            tailEnd := some (s.time.clock.add row.tail) } }
          let idle : Sequencer :=
            { state := .idle, current := none, bridged := none, restRow := none, endInstant := none, tailEnd := none,
              mod := 0, modstb := true, txrdy := s.keying.txrdy }
          ((∀ j, s.keyUpReached j = false) → exec .blockRead s =
              .next (State.retireNext s (if row.tail = 0 then { faulted with keying := idle } else tailed)))
            ∧ ∀ q o, s.headReady = some q → s.record q = some o → o.keptKeyUp.diff s.time.clock ≤ 0 →
              0 ≤ (o.launch.add (ticksOf o.inc o.j)).diff s.time.clock →
              0 < (r.nominalEnd.add s.store.settings.guard).diff s.time.clock →
              (1 ≤ row.tail ∨ (s.gateOpen o.row = true ∧ s.keying.txrdy = true) →
                  exec .blockRead s = exec (.keyUp q) tailed)
                ∧ (row.tail = 0 → s.gateOpen o.row = false ∨ s.keying.txrdy = false →
                  ∀ u, exec (.keyUp q) tailed = .next u → exec .blockRead s = .next { u with keying := idle })

/-- The tail end: IDLE, KEY released and 0 put out, and the head READY record whose key-up is due then is decided from IDLE
in the same event. A fall of TXRDY with KEY asserted latches TX, and otherwise only moves the pin (R138, R139, R147, R150;
log 3). -/
def Obligations.TailEndReleasesKeyAndTxrdyFallLatches : Prop :=
  (∀ (s : State) (x : Instant), s.keying.state = .tail → s.keying.tailEnd = some x →
      let idle := { s with keying :=
        { state := .idle, current := none, bridged := none, restRow := none, endInstant := none, tailEnd := none,
          mod := 0, modstb := true, txrdy := s.keying.txrdy } }
      (x.diff s.time.clock ≤ 0 → (∀ i, s.keyUpReached i = false) → exec .tailEnd s = .next idle)
        ∧ (∀ i q, x.diff s.time.clock ≤ 0 → s.headReady = some i → s.record i = some q →
          q.keptKeyUp.diff s.time.clock ≤ 0 → 0 ≤ (q.launch.add (ticksOf q.inc q.j)).diff s.time.clock →
          exec .tailEnd s = exec (.keyUp i) idle)
        ∧ (0 < x.diff s.time.clock → exec .tailEnd s = .next s))
    ∧ ∀ s : State,
      (s.keying.txrdy = true → s.keying.state ≠ .idle →
          exec .txrdyFall s = .next { s with
            keying := { s.keying with txrdy := false }
            latches := s.latches ||| 0x20 })
        ∧ (s.keying.txrdy = true → s.keying.state = .idle →
          exec .txrdyFall s = .next { s with keying := { s.keying with txrdy := false } })
        ∧ (s.keying.txrdy = false → exec .txrdyFall s = .next s)

/-! ### Management requests -/

/-- An answer is one reply frame behind the replies queued, or REPLY_LOST when four are held, and nothing for a group or
broadcast request (R70, R71, R157, R177). RESTART answers first and calls for the warm restart, which stands at the front of
the queue as the next event (log 42). A request out of a frame is the command of its code, 0x01 STATUS to 0x0D RESTART, and
the results are coded 0 to 7 in the order DONE, CLAMPED, BUSY, IN_USE, RANGE, NO_SUCH, READ_ONLY, NV_FAIL (R155, R177); a
request that is not understood is echoed with its high bit set; a busy engine turns every other request but STATUS and ABORT
away; a wrong length is RANGE (R154 to R157, R167). -/
def Obligations.RequestsOutsideTheOrdinaryCourse : Prop :=
  (∀ (s : State) (h : Handed) (q : Request) (res : Result) (data : List Byte),
    let body := [0x6D, h.dest.extractLsb' 8 8, h.dest.extractLsb' 0 8, h.tag, q.code, res.code, 0x00, 0x01] ++ data
    let c := s.link h.link
    (h.addressing = .unicast → c.replies.length < 4 →
        s.answer h q res data = s.setLink h.link { c with
          replies := c.replies ++ [frameOf body]
          sending := if c.up = true ∧ c.sending = none then some c.lineRate else c.sending })
      ∧ (h.addressing = .unicast → 4 ≤ c.replies.length →
        s.answer h q res data = s.bump (.link h.link .replyLost))
      ∧ (h.addressing ≠ .unicast → s.answer h q res data = s))
    ∧ (∀ (s : State) (h : Handed),
    let s1 := s.bump (.mgmt .requestsTaken)
    (s.engine = .free →
        exec (.restart h []) s = .next { s1.answer h .restart .done [] with
          restartCalled := true, pending := .warmRestart :: s.pending })
      ∧ (∀ (code : Byte) (params : List Byte), 0x0D < code.toNat ∨ code = 0 →
          exec (.notUnderstood h code params) s = .next (
            if h.addressing = .unicast then
              s1.placeReply h.link ([0x6D, h.dest.extractLsb' 8 8, h.dest.extractLsb' 0 8, h.tag, code ||| 0x80, 0x00,
                0x00, 0x01])
            else s1))
      ∧ (∀ (q : Request) (params : List Byte), q ≠ .status → q ≠ .abort → s.engine ≠ .free →
          s.takeRequest q.code h params =
            (if h.addressing = .unicast then (s1.bump (.mgmt .busyAnswers)).answer h q .busy []
            else s1.bump (.mgmt .busyDiscards)))
      ∧ (∀ (q : Request) (n : Nat) (params : List Byte), q.paramBytes = some n → params.length ≠ n → s.engine = .free →
          s.takeRequest q.code h params = s1.answer h q .range []))
    ∧ (∀ (s : State) (h : Handed) (ps : List Byte),
      exec (.status h ps) s = .next (s.takeRequest 0x01 h ps) ∧ exec (.read h ps) s = .next (s.takeRequest 0x02 h ps)
        ∧ exec (.write h ps) s = .next (s.takeRequest 0x03 h ps) ∧ exec (.digest h ps) s = .next (s.takeRequest 0x04 h ps)
        ∧ exec (.switch h ps) s = .next (s.takeRequest 0x05 h ps)
        ∧ exec (.cancelSwitch h ps) s = .next (s.takeRequest 0x06 h ps)
        ∧ exec (.store h ps) s = .next (s.takeRequest 0x07 h ps) ∧ exec (.recall h ps) s = .next (s.takeRequest 0x08 h ps)
        ∧ exec (.abort h ps) s = .next (s.takeRequest 0x09 h ps)
        ∧ exec (.ackAlarms h ps) s = .next (s.takeRequest 0x0A h ps)
        ∧ exec (.clearCounters h ps) s = .next (s.takeRequest 0x0B h ps)
        ∧ exec (.setLinkRate h ps) s = .next (s.takeRequest 0x0C h ps)
        ∧ exec (.restart h ps) s = .next (s.takeRequest 0x0D h ps)
        ∧ ∀ code, exec (.notUnderstood h code ps) s = .next (s.takeRequest code h ps))
    ∧ (∀ q : Request, (q.code, q.paramBytes) = match q with
      | .status => ((0x01 : Byte), some 0)
      | .read => (0x02, some 3)
      | .write => (0x03, none)
      | .digest => (0x04, some 1)
      | .switch => (0x05, some 5)
      | .cancelSwitch => (0x06, some 0)
      | .store => (0x07, some 0)
      | .recall => (0x08, some 0)
      | .abort => (0x09, some 3)
      | .ackAlarms => (0x0A, some 1)
      | .clearCounters => (0x0B, some 0)
      | .setLinkRate => (0x0C, some 2)
      | .restart => (0x0D, some 0))
    ∧ [Result.done, .clamped, .busy, .inUse, .range, .noSuch, .readOnly, .nvFail].map Result.code = [0, 1, 2, 3, 4, 5, 6, 7]

/-- STATUS is served free or busy with 32 bytes of data, every field of which is laid down: the site clock, the clock state
and flags, U in ticks, the active profile and the pending switch, the link and sequencer states, the five record counts, the
free blocks, the conditions and the latches. DIGEST answers with the CRC-16 of the profile's 516-byte image, or RANGE. Neither
changes anything but the requests-taken counter and the reply (R36, R123, R154, R156, R158, R162, R173, R178, R180). -/
def Obligations.StatusAndDigestOnlyAnswer : Prop :=
  (∀ s : State,
    let flag := fun (b : Bool) (n : Nat) => if b then n else 0
    let count := fun (c : RecordState) => BitVec.ofNat 8 (s.records.filter (fun r => decide (r.state = c))).length
    s.statusData.length = 32
      ∧ s.statusData =
        bytesOf 4 s.time.clock.sec.toNat ++ bytesOf 4 s.time.clock.tick.val
          ++ [match s.time.state with
              | .unset => 0x00
              | .acquiring _ => 0x01
              | .locked => 0x02
              | .holdover => 0x03,
            BitVec.ofNat 8 (flag (decide (s.time.state = .acquiring true)) 1 + flag s.time.stepPending 2
              + flag (decide (s.engine ≠ .free)) 4 + flag s.store.nvFault 8)]
          ++ bytesOf 4 ((s.time.u + 999) / 1000)
          ++ [BitVec.ofNat 8 s.store.active.val]
          ++ (match s.store.pending with
              | none => [0x00, 0x00, 0x00, 0x00, 0x00, 0x00]
              | some p => [0x01, BitVec.ofNat 8 p.target.val] ++ bytesOf 4 p.second.toNat)
          ++ [BitVec.ofNat 8 (flag s.linkA.up 1 + flag s.linkB.up 2),
            match s.keying.state with
              | .idle => 0x00
              | .lead => 0x01
              | .symbols => 0x02
              | .hold => 0x03
              | .tail => 0x04,
            count .assembling, count .ready, count .keying, count .onAir, count .shadow]
          ++ bytesOf 2 s.symbols.free.length
          ++ [BitVec.ofNat 8 (flag (decide (s.time.state ≠ .locked)) 1 + flag (!s.linkA.up) 2 + flag (!s.linkB.up) 4
              + flag s.store.nvFault 8), s.latches])
    ∧ (∀ (s : State) (h : Handed),
    let s1 := s.bump (.mgmt .requestsTaken)
    exec (.status h []) s = .next (s1.answer h .status .done s.statusData)
      ∧ (s.engine = .free → ∀ n : Fin 4,
          exec (.digest h [BitVec.ofNat 8 n.val]) s =
            .next (s1.answer h .digest .done (bytesOf 2 (crc16 (profileImage (s.store.profiles.get n))).toNat)))
      ∧ (s.engine = .free → ∀ b : Byte, 4 ≤ b.toNat →
          exec (.digest h [b]) s = .next (s1.answer h .digest .range [])))
    ∧ (∀ f : Profile, (profileImage f).length = 516)
    ∧ ∀ v : Nat, bytesOf 2 v = [BitVec.ofNat 8 (v / 256), BitVec.ofNat 8 v]
      ∧ bytesOf 4 v =
        [BitVec.ofNat 8 (v / 16777216), BitVec.ofNat 8 (v / 65536), BitVec.ofNat 8 (v / 256), BitVec.ofNat 8 v]

/-- READ: NO_SUCH for a table or a range that is not there, one frame for a range that fits it, and for a longer range sent
unicast a multi-frame READ that makes the engine busy, its first frame, with frame index 0 and the final flag clear, made at
once when the queue has a place (R72, R159, R160, R177, R180). The table identifiers, the rows one frame carries and the size
of a row are those of the tables of R159 and R177. The rows of the fixed tables, of HISTORY, oldest entry first, of BATCHES,
in slot order, and of COUNTERS, in 20, 24 and 4 bytes: an outcome by its code, 0xFF for none, j as the smaller of j and n
(R123, R168, R169). -/
def Obligations.ReadAnswersInOneFrameOrSeveral : Prop :=
  (∀ (s : State) (h : Handed) (id first count : Byte), s.engine = .free →
    let s1 := s.bump (.mgmt .requestsTaken)
    let go := exec (.read h [id, first, count]) s
    (tableOf id = none → go = .next (s1.answer h .read .noSuch []))
      ∧ ∀ t, tableOf id = some t →
        let held := (s1.rows t).length
        let last := if count = 0 then held
          else if t.moving then min held (first.toNat + count.toNat) else first.toNat + count.toNat
        let rows := ((s1.rows t).drop first.toNat).take (last - first.toNat)
        let begun := fun (next frame : Nat) =>
          ({ handed := h, table := id, next := next, stop := last, frame := frame, stall := 0 } : ReadOp)
        let inside := first.toNat < held ∧ (t.moving = false → first.toNat + count.toNat ≤ held)
        (¬ inside → ¬ (t.moving = true ∧ first = 0 ∧ held = 0) → go = .next (s1.answer h .read .noSuch []))
          ∧ (t.moving = true → first = 0 → held = 0 →
            go = .next (s1.answer h .read .done [id, 0x00, 0x00]))
          ∧ (inside → last - first.toNat ≤ t.frameRows →
            go = .next (s1.answer h .read .done
              ([id, first, BitVec.ofNat 8 rows.length] ++ rows.flatten)))
          ∧ (inside → t.frameRows < last - first.toNat → h.addressing = .unicast →
              (s.link h.link).replies.length < 4 →
              go = .next { s1.placeReply h.link ([0x6D, h.dest.extractLsb' 8 8, h.dest.extractLsb' 0 8, h.tag, 0x02, 0x00,
                  0x00, 0x00] ++ [id, first, BitVec.ofNat 8 t.frameRows] ++ (rows.take t.frameRows).flatten) with
                engine := .reading (begun (first.toNat + t.frameRows) 1) })
          ∧ (inside → t.frameRows < last - first.toNat → h.addressing = .unicast →
              4 ≤ (s.link h.link).replies.length →
              go = .next { s1 with engine := .reading (begun first.toNat 0) })
          ∧ (inside → t.frameRows < last - first.toNat → h.addressing ≠ .unicast → go = .next s1))
    ∧ (tableOf 0x00 = some .settings ∧ tableOf 0x40 = some .history ∧ tableOf 0x41 = some .counters
      ∧ tableOf 0x42 = some .batches
      ∧ (∀ p : Fin 4, tableOf (BitVec.ofNat 8 (0x10 + p.val)) = some (.site p)
        ∧ tableOf (BitVec.ofNat 8 (0x20 + p.val)) = some (.modes p)
        ∧ tableOf (BitVec.ofNat 8 (0x30 + p.val)) = some (.zones p))
      ∧ ∀ id : Byte, id ∉ [0x00, 0x10, 0x11, 0x12, 0x13, 0x20, 0x21, 0x22, 0x23, 0x30, 0x31, 0x32, 0x33, 0x40, 0x41, 0x42] →
        tableOf id = none)
    ∧ (∀ t : TableId,
      let sizes := match t with
        | .settings => (1, 35)
        | .site _ => (1, 4)
        | .modes _ => (8, 32)
        | .zones _ => (64, 4)
        | .history => (12, 20)
        | .counters => (50, 4)
        | .batches => (10, 24)
      (t.frameRows, t.rowSize) = sizes ∧ (t.moving = true ↔ t = .history ∨ t = .batches))
    ∧ (∀ (s : State) (p : Fin 4), let f := s.store.profiles.get p
      s.rows .settings = [settingsBytes s.store.settings] ∧ s.rows (.site p) = [siteBytes f]
        ∧ s.rows (.modes p) = (List.finRange 8).map (fun m => modeBytes (f.modes.get m))
        ∧ s.rows (.zones p) = (List.finRange 64).map (fun z => zoneBytes (f.zones.get z)))
    ∧ ∀ s : State,
      let source := fun (a b : Bool) => BitVec.ofNat 8 ((if a then 1 else 0) + (if b then 2 else 0))
      let code := fun (o : BatchOutcome) => match o with
        | .launched => (0x00 : Byte)
        | .trimmed => 0x01
        | .joined => 0x02
        | .tracked => 0x03
        | .muted => 0x04
        | .notReady => 0x05
        | .droppedLate => 0x06
        | .droppedIncomplete => 0x07
        | .droppedConflict => 0x08
        | .aborted => 0x09
        | .storeFault => 0x0A
      let outcomes : List BatchOutcome := [.launched, .trimmed, .joined, .tracked, .muted, .notReady, .droppedLate,
        .droppedIncomplete, .droppedConflict, .aborted, .storeFault]
      let ofLink := fun (l : Link) => [LinkCounter.attempt .good, .attempt .badCheck, .attempt .empty, .attempt .oversize,
        .attempt .badChar, .attempt .gap, .attempt .overrun, .partsTaken, .replyLost, .repliesSent].map (Counter.link l)
      let counters := ofLink .a ++ ofLink .b
        ++ [AdmissionCounter.noTime, .badPart, .badTag, .lateCopy, .mismatch, .duplicate, .zoneOff, .noMode, .tooEarly,
            .tableFull, .storeFull, .foreign, .unknownKind, .takenToShadow].map Counter.admission
        ++ outcomes.map Counter.outcome
        ++ [MgmtCounter.requestsTaken, .busyAnswers, .busyDiscards, .stallEnds].map Counter.mgmt ++ [.todFailures]
      s.rows .history = s.history.map (fun e => bytesOf 2 e.number.toNat
            ++ [BitVec.ofNat 8 e.zone.val, BitVec.ofNat 8 e.mode.val, BitVec.ofNat 8 e.cls.val, code e.outcome,
              source e.sourceA e.sourceB, 0x00]
            ++ bytesOf 4 e.launch.sec.toNat ++ bytesOf 4 e.launch.tick.val ++ bytesOf 2 e.j ++ bytesOf 2 e.sent)
        ∧ s.rows .batches = s.records.map (fun q => bytesOf 2 q.number.toNat
            ++ [match q.state with
                | .assembling => 0x01
                | .ready => 0x02
                | .keying => 0x03
                | .onAir => 0x04
                | .shadow => 0x05,
              (q.shadow.map code).getD 0xFF, BitVec.ofNat 8 q.cls.val, BitVec.ofNat 8 q.profileUsed.val]
            ++ bytesOf 2 (min q.j q.total) ++ bytesOf 2 q.k
            ++ bytesOf 4 q.keptKeyUp.sec.toNat ++ bytesOf 4 q.keptKeyUp.tick.val ++ bytesOf 2 q.parts.toNat
            ++ [source q.sourceA q.sourceB, source q.late q.joined] ++ bytesOf 2 q.sent)
        ∧ s.records = (List.finRange 32).filterMap s.record
        ∧ s.rows .counters = counters.map (fun c => bytesOf 4 (s.counter c).toNat) ∧ counters.length = 50
        ∧ (∀ row ∈ s.rows .history, row.length = 20) ∧ (∀ row ∈ s.rows .batches, row.length = 24)

/-- A multi-frame READ goes on a frame at a time as places free, each made from the table as it then stands, and ends with
the frame that reaches the end of the range or of the table; 2 s without a place end it, counted (R72, R160; log 3). Each frame
carries its frame index, the final flag, the table, the index of its first row and the number of its rows (R177, R180). A frame
placed goes behind the replies queued, and begins at once on a link that is UP and sends none (R70, R71). -/
def Obligations.MultiFrameReadGoesOnOrStalls : Prop :=
  (∀ (s : State) (op : ReadOp) (t : TableId), s.engine = .reading op → tableOf op.table = some t → op.next ≤ op.stop →
    let rows := ((s.rows t).drop op.next).take (min t.frameRows (op.stop - op.next))
    let next := op.next + rows.length
    let final := op.stop ≤ next ∨ (s.rows t).length ≤ next
    let body := [0x6D, op.handed.dest.extractLsb' 8 8, op.handed.dest.extractLsb' 0 8, op.handed.tag, 0x02, 0x00,
        BitVec.ofNat 8 op.frame, if final then 0x01 else 0x00]
      ++ [op.table, BitVec.ofNat 8 op.next, BitVec.ofNat 8 rows.length] ++ rows.flatten
    ((s.link op.handed.link).replies.length < 4 →
        exec .readFramePlaced s = .next { s.placeReply op.handed.link body with
          engine := if final then .free
            else .reading { op with next := next, frame := op.frame + 1, stall := 0 } })
      ∧ (4 ≤ (s.link op.handed.link).replies.length → exec .readFramePlaced s = .next s)
      ∧ (4 ≤ (s.link op.handed.link).replies.length → 20000000 ≤ op.stall →
        exec .readStall s = .next ({ s with engine := .free }.bump (.mgmt .stallEnds)))
      ∧ ((s.link op.handed.link).replies.length < 4 ∨ op.stall < 20000000 → exec .readStall s = .next s))
    ∧ ∀ (s : State) (l : Link) (body : List Byte),
      let c := s.link l
      (c.replies.length < 4 → s.placeReply l body = s.setLink l { c with
          replies := c.replies ++ [frameOf body]
          sending := if c.up = true ∧ c.sending = none then some c.lineRate else c.sending })
        ∧ (4 ≤ c.replies.length → s.placeReply l body = s.bump (.link l .replyLost))

/-- The tests of WRITE in their order, each refusing with its result and writing nothing (R29, R157, R161, R179). Of the
settings record, one refused field is RANGE; otherwise every field outside its range goes to the nearer limit, the guard then to
the setup margin, and the result tells whether any did (R25, R30, R31). A link whose silence time is now not above the
time it has run goes DOWN at once, the reply follows, and after it each rate change, pending behind the reply for a unicast
request on the link itself and at once otherwise (R26, R67, R73, R74; log 38, log 43). -/
def Obligations.WriteIsJudgedInOrder : Prop :=
  (∀ (s : State) (h : Handed) (params : List Byte), s.engine = .free →
    let refused := fun (res : Result) =>
      exec (.write h params) s = .next ((s.bump (.mgmt .requestsTaken)).answer h .write res [])
    (params.length < 2 → refused .range)
      ∧ ∀ id first carried, params = id :: first :: carried →
        (tableOf id = none → refused .noSuch)
          ∧ ∀ t, tableOf id = some t →
            let whole := carried ≠ [] ∧ carried.length % t.rowSize = 0
            let n := carried.length / t.rowSize
            let readOnly := t = .history ∨ t = .counters ∨ t = .batches
            let held := match t with
              | .modes _ => 8
              | .zones _ => 64
              | _ => 1
            let inUse := fun p => s.store.active = p ∨ s.store.pending.map (·.target) = some p
            (¬ whole → refused .range)
              ∧ (whole → readOnly → refused .readOnly)
              ∧ (whole → ¬ readOnly → held < first.toNat + n → refused .noSuch)
              ∧ ∀ p, (t = .site p ∨ t = .modes p ∨ t = .zones p) → whole → first.toNat + n ≤ held → inUse p →
                refused .inUse)
    ∧ (∀ r : Settings,
    let held := fun (lo hi v : Nat) => if v < lo then lo else if hi < v then hi else v
    let margin := held 1000 1000000 r.setupMargin
    keptSettings r = { r with
        siteAddress := if r.siteAddress = 0 then 1 else if r.siteAddress = 0xFFFF then 0xFFFE else r.siteAddress
        groups := r.groups.map (fun g => if g = 0xFFFF then 0xFFFE else g)
        rotation := held 1 8 r.rotation
        gapLimit := held 1 255 r.gapLimit
        silence := held 1 255 r.silence
        setupMargin := margin
        maxLead := held 1 120 r.maxLead
        guard := min (held 0 100000 r.guard) margin
        bridgeLimit := held 0 10000000 r.bridgeLimit
        acqCount := held 2 10 r.acqCount
        holdoverRate := held 1 100000 r.holdoverRate }
      ∧ (r.preferred.listed = true → (∀ l, 1 ≤ r.rate l ∧ r.rate l ≤ 7) → (keptSettings r).InRange))
    ∧ ∀ (s : State) (h : Handed) (row : List Byte), s.engine = .free → row.length = 35 →
    let s1 := s.bump (.mgmt .requestsTaken)
    (readSettings row = none ↔
        (row.getD 10 0 = 0 ∨ 7 < (row.getD 10 0).toNat) ∨ (row.getD 11 0 = 0 ∨ 7 < (row.getD 11 0).toNat)
          ∨ 1 < (row.getD 12 0).toNat)
      ∧ (readSettings row = none →
        exec (.write h ([0x00, 0x00] ++ row)) s = .next (s1.answer h .write .range []))
      ∧ ∀ raw, readSettings row = some raw →
        let kept := keptSettings raw
        let silenced := fun (l : Link) (x : State) =>
          if (x.link l).up = true ∧ kept.silence * 10000000 ≤ (x.link l).silence then
            { x.setLink l { x.link l with up := false, silence := 0 } with
              latches := x.latches ||| (if l = .a then 0x02 else 0x04) }
          else x
        let moved := fun (l : Link) (x : State) =>
          let c := x.link l
          if raw.rate l = s.store.settings.rate l then x
          else if h.addressing = .unicast ∧ h.link = l then
            x.setLink l { c with rateChange := some { code := raw.rate l, after := c.replies.length } }
          else if c.deframer = .hunt then x.setLink l { c with lineRate := raw.rate l, rateChange := none }
          else (x.setLink l { c with
            lineRate := raw.rate l, rateChange := none, deframer := .hunt, gapTimer := none }).bump
              (.link l (.attempt .badChar))
        exec (.write h ([0x00, 0x00] ++ row)) s = .next (moved .b (moved .a
          ((silenced .b (silenced .a { s1 with store := { s1.store with settings := kept } })).answer h .write
            (if kept = raw then .done else .clamped) [])))

/-- A WRITE of mode rows, zone rows or the site offset to a profile that is neither active nor the pending target: refused
whole for one refused field, otherwise every row written, clamped, and no other row or profile changed (R29 to R31, R161).
A mode row is refused for a symbol rate that is neither 0 nor in 100 … 9600 and for an unlisted level set or late policy, a zone
row for an unlisted zone mode, and every other field outside its range goes to the nearer limit (R30, R31, R179). -/
def Obligations.ProfileWriteReplacesItsRowsAlone : Prop :=
  (∀ (s : State) (h : Handed) (p : Fin 4) (first : Byte) (carried : List Byte), s.engine = .free → carried ≠ [] →
    s.store.active ≠ p → s.store.pending.map (·.target) ≠ some p →
    let s1 := s.bump (.mgmt .requestsTaken)
    let f := s.store.profiles.get p
    let kept := fun (g : Profile) => { s1 with store := { s1.store with profiles := s1.store.profiles.set p.val g } }
    let modeRows := (rowsOf 32 (carried.length / 32) carried).mapM readMode
    let zoneRows := (rowsOf 4 (carried.length / 4) carried).mapM readZone
    (carried.length % 32 = 0 → first.toNat + carried.length / 32 ≤ 8 →
        let go := exec (.write h ([BitVec.ofNat 8 (0x20 + p.val), first] ++ carried)) s
        (modeRows = none → go = .next (s1.answer h .write .range []))
          ∧ ∀ rows, modeRows = some rows →
            go = .next ((kept { f with modes := Vector.ofFn (fun i =>
                if i.val < first.toNat then f.modes.get i
                else ((rows.map clampMode)[i.val - first.toNat]?).getD (f.modes.get i)) }).answer h .write
              (if rows.map clampMode = rows then .done else .clamped) []))
      ∧ (carried.length % 4 = 0 → first.toNat + carried.length / 4 ≤ 64 →
        let go := exec (.write h ([BitVec.ofNat 8 (0x30 + p.val), first] ++ carried)) s
        (zoneRows = none → go = .next (s1.answer h .write .range []))
          ∧ ∀ rows, zoneRows = some rows →
            go = .next ((kept { f with zones := Vector.ofFn (fun i =>
                if i.val < first.toNat then f.zones.get i
                else ((rows.map clampZone)[i.val - first.toNat]?).getD (f.zones.get i)) }).answer h .write
              (if rows.map clampZone = rows then .done else .clamped) []))
      ∧ (carried.length = 4 →
        exec (.write h ([BitVec.ofNat 8 (0x10 + p.val), 0x00] ++ carried)) s =
          .next ((kept { f with siteOffset := clampOffset (intAt carried 0 4) }).answer h .write
            (if clampOffset (intAt carried 0 4) = intAt carried 0 4 then .done else .clamped) [])))
    ∧ (∀ row : List Byte, row.length = 32 →
      let rate := (row.getD 0 0).toNat * 256 + (row.getD 1 0).toNat
      readMode row = none ↔
        (rate ≠ 0 ∧ (rate < 100 ∨ 9600 < rate)) ∨ 1 < (row.getD 24 0).toNat ∨ 1 < (row.getD 25 0).toNat)
    ∧ (∀ row : List Byte, row.length = 4 → (readZone row = none ↔ 2 < (row.getD 0 0).toNat))
    ∧ (∀ v : Int, clampOffset v = if v < -1000000 then -1000000 else if 1000000 < v then 1000000 else v)
    ∧ (∀ m : ModeRow, clampMode m = { m with
        offset := clampOffset m.offset
        keyLead := min m.keyLead 2000000
        tail := min m.tail 1000000
        joinMin := if m.joinMin < 1 then 1 else if 4096 < m.joinMin then 4096 else m.joinMin
        tolerance := min m.tolerance 100000 })
    ∧ (∀ z : ZoneRow, clampZone z = { z with offset := clampOffset z.offset })
    ∧ ∀ (size n : Nat) (bytes : List Byte),
      rowsOf size n bytes = (List.range n).map (fun k => (bytes.drop (size * k)).take size)

/-- SWITCH: RANGE for a target that is none or is active and for a second not two ahead, IN_USE when batches depend on the
pending switch, and otherwise the pending switch is created or replaced. CANCEL_SWITCH likewise removes it (R28, R32, R33,
R162). -/
def Obligations.SwitchAndCancelHoldTheInterlock : Prop :=
  ∀ (s : State) (h : Handed) (target : Byte) (second : Word32), s.engine = .free →
    let s1 := s.bump (.mgmt .requestsTaken)
    let params := target :: bytesOf 4 second.toNat
    let bad := 4 ≤ target.toNat ∨ s.store.active.val = target.toNat ∨ secondDiff second (s.time.clock.sec + 1) ≤ 0
    let held := s.store.pending ≠ none ∧ ∃ r ∈ s.records, r.dependent = true
    let withPending := fun (p : Option PendingSwitch) =>
      { s1 with
        store := { s1.store with pending := p }
        table := s1.table.map (fun (o : Option Record) => o.map (fun (r : Record) => { r with dependent := false })) }
    (bad → exec (.switch h params) s = .next (s1.answer h .switch .range []))
      ∧ (¬ bad → held → exec (.switch h params) s = .next (s1.answer h .switch .inUse []))
      ∧ (¬ held → ∀ n : Fin 4, n.val = target.toNat → ¬ bad →
        exec (.switch h params) s =
          .next ((withPending (some { target := n, second := second })).answer h .switch .done []))
      ∧ (held → exec (.cancelSwitch h []) s = .next (s1.answer h .cancelSwitch .inUse []))
      ∧ (¬ held → s.store.pending ≠ none →
        exec (.cancelSwitch h []) s = .next ((withPending none).answer h .cancelSwitch .done []))
      ∧ (s.store.pending = none → exec (.cancelSwitch h []) s = .next (s1.answer h .cancelSwitch .done []))

/-- STORE takes its snapshot and makes the engine busy; its completion frees the engine, puts the snapshot with its check in
the copy and clears the NV condition, or raises it, the copy then a mixture bit by bit of the old and the new, and answers then
(R37, R38, R163, R173; log 12). RECALL is refused with IN_USE, or with NV_FAIL where the CRC-16 or the active number fails, or
puts the copy's settings record, profiles and active number in place as they stand in it (R39, R163; log 13), with the silence
time and the rate changes as for a WRITE (R67, R73, R74; log 38, log 43). That STORE_COMPLETE with no STORE in progress changes
nothing is the model's (log 3). -/
def Obligations.StoreAndRecallMoveTheWorkingState : Prop :=
  ((∀ (s : State) (h : Handed), s.engine = .free →
      exec (.store h []) s = .next { s.bump (.mgmt .requestsTaken) with
        engine := .storing
          { snapshot := snapshotBytes s.store.settings s.store.profiles s.store.active, handed := h, elapsed := 0 } })
    ∧ (∀ (s : State) (op : StoreOp), s.engine = .storing op →
      exec (.storeComplete true) s =
          .next ({ s with
            engine := .free
            store := { s.store with
              nv := { bytes := op.snapshot, check := crc16 op.snapshot }, nvFault := false } }.answer op.handed .store
                .done [])
        ∧ exec (.storeComplete false) s =
          .next ({ s with
            engine := .free
            store := { s.store with nv := mixedCopy s.free s.store.nv op.snapshot, nvFault := true }
            latches := if s.store.nvFault then s.latches else s.latches ||| 0x08
            free := s.free + 1 }.answer op.handed .store .nvFail []))
    ∧ (∀ s : State, (∀ op, s.engine ≠ .storing op) → ∀ v, exec (.storeComplete v) s = .next s)
    ∧ ∀ (n : Nat) (old : NvCopy) (snapshot : List Byte),
      (mixedCopy n old snapshot).bytes.length = snapshot.length
        ∧ ∀ i, i < snapshot.length → ∀ b,
          let bit := fun (bytes : List Byte) => (bytes.getD i 0).getLsbD b
          bit (mixedCopy n old snapshot).bytes = bit snapshot ∨ bit (mixedCopy n old snapshot).bytes = bit old.bytes)
    ∧ (∀ (n : Nat) (old : NvCopy) (snapshot : List Byte) (b : Nat),
      let check := (mixedCopy n old snapshot).check.getLsbD b
      check = (crc16 snapshot).getLsbD b ∨ check = old.check.getLsbD b)
    ∧ (∀ (s : State) (h : Handed), s.engine = .free →
    let s1 := s.bump (.mgmt .requestsTaken)
    (s.store.pending ≠ none ∨ s.records ≠ [] → exec (.recall h []) s = .next (s1.answer h .recall .inUse []))
      ∧ (s.store.pending = none → s.records = [] →
        (crc16 s.store.nv.bytes ≠ s.store.nv.check ∨ 3 < (s.store.nv.bytes.getD 2099 0).toNat) →
        exec (.recall h []) s = .next ({ s1 with
          store := { s1.store with nvFault := true }
          latches := if s.store.nvFault then s1.latches else s1.latches ||| 0x08 }.answer h .recall .nvFail []))
      ∧ ∀ settings profiles active, s.store.pending = none → s.records = [] →
        readCopy s.store.nv = some (settings, profiles, active) →
        let silenced := fun (l : Link) (x : State) =>
          if (x.link l).up = true ∧ settings.silence * 10000000 ≤ (x.link l).silence then
            { x.setLink l { x.link l with up := false, silence := 0 } with
              latches := x.latches ||| (if l = .a then 0x02 else 0x04) }
          else x
        let moved := fun (l : Link) (x : State) =>
          let c := x.link l
          if settings.rate l = s.store.settings.rate l then x
          else if h.addressing = .unicast ∧ h.link = l then
            x.setLink l { c with rateChange := some { code := settings.rate l, after := c.replies.length } }
          else if c.deframer = .hunt then x.setLink l { c with lineRate := settings.rate l, rateChange := none }
          else (x.setLink l { c with
            lineRate := settings.rate l, rateChange := none, deframer := .hunt, gapTimer := none }).bump
              (.link l (.attempt .badChar))
        exec (.recall h []) s = .next (moved .b (moved .a ((silenced .b (silenced .a { s1 with
          store := { s1.store with settings := settings, profiles := profiles, active := active } })).answer h .recall
            .done []))))

/-- ABORT of one batch, by the state of its record: SHADOW as ABORTED, which from KEYING takes the sequencer to TAIL and for the
bridged record ends HOLD, the stop after the symbol in progress, or nothing; NO_SUCH for a number no record holds; RANGE for
another selector. In the event of entry into TAIL the head READY record is decided when its key-up has come due, and a tail of 0
ends. In HOLD, the abort of another record than the bridged or KEYING one, which leaves that the head READY one, leaves the
sequencer as it is. ABORT of all batches acts so on
every record, in slot order, so the blocks of the waiting ones go to the free list in that order, and what the sequencer owes
comes after the last (log 21). Served free or busy (R101, R114, R118, R119, R139, R146 to R148, R164; log 42). -/
def Obligations.AbortActsByState : Prop :=
  ∀ (s : State) (h : Handed) (number : Word16),
    let s1 := s.bump (.mgmt .requestsTaken)
    let n := bytesOf 2 number.toNat
    let one := exec (.abort h (0x00 :: n)) s
    let all := exec (.abort h (0x01 :: n)) s
    let answered := fun (t : State) => Host.Outcome.next (ρ := Refusal) (φ := Fault) (t.answer h .abort .done [])
    let idle : Sequencer :=
      { state := .idle, current := none, bridged := none, restRow := none, endInstant := none, tailEnd := none,
        mod := 0, modstb := true, txrdy := s.keying.txrdy }
    (s.slotOf number = none → one = .next (s1.answer h .abort .noSuch []))
      ∧ (∀ i r, s.slotOf number = some i → s.record i = some r →
          let shadowed := s1.becomeShadow i .aborted
          let tailed := { shadowed with keying := { s.keying with
            state := .tail, current := none, bridged := none, restRow := some r.row, endInstant := none,
            tailEnd := some (s.time.clock.add r.row.tail), mod := r.row.rest, modstb := true } }
          (r.state = .shadow → one = answered s1)
            ∧ (r.state = .onAir → r.stop = none →
              one = answered (s1.setRecord i { r with
                stop := some { symbol := s.pacer.symbol, outcome := .aborted } }))
            ∧ (r.state = .onAir → r.stop ≠ none → one = answered s1)
            ∧ (r.state = .assembling ∨ r.state = .ready → s.keying.state ≠ .hold ∨ s.keying.current ≠ none →
              one = answered (State.retireNext s1 shadowed))
            ∧ (∀ b, r.state = .assembling ∨ r.state = .ready → s.keying.bridged = some b → b ≠ i →
              s.headReady ≠ some b ∨ shadowed.headReady = some b → one = answered (State.retireNext s1 shadowed))
            ∧ (r.state = .keying → s.keying.state = .lead → (∀ j, s.keyUpReached j = false) → 1 ≤ r.row.tail →
              r.row.tail ≤ 1000000 → one = answered (State.retireNext s1 tailed))
            ∧ (r.state = .keying → s.keying.state = .lead → (∀ j, s.keyUpReached j = false) → r.row.tail = 0 →
              one = answered (State.retireNext s1 { shadowed with keying := idle }))
            ∧ (∀ b q u, r.state = .keying → s.keying.state = .lead → s.headReady = some b → s.record b = some q →
              q.keptKeyUp.diff s.time.clock ≤ 0 → 0 ≤ (q.launch.add (ticksOf q.inc q.j)).diff s.time.clock →
              1 ≤ r.row.tail → r.row.tail ≤ 1000000 →
              0 < (r.nominalEnd.add s.store.settings.guard).diff s.time.clock →
              exec (.keyUp b) tailed = .next u → one = answered u)
            ∧ (∀ row, r.state = .keying → s.keying.state = .hold → s.keying.restRow = some row →
              (∀ j, s.keyUpReached j = false) → 1 ≤ row.tail → row.tail ≤ 1000000 →
              one = answered (State.retireNext s1 { shadowed with keying := { s.keying with
                state := .tail, current := none, bridged := none, endInstant := none,
                tailEnd := some (s.time.clock.add row.tail) } }))
            ∧ (r.state = .ready → s.keying.state = .hold → s.keying.current = none → s.keying.bridged = some i →
              s.keying.endInstant ≠ none →
              ∃ t, one = .next t
                ∧ t.record i = some { r with
                    state := .shadow, shadow := some .aborted, chains := Vector.replicate 16 [] }
                ∧ t.keying.bridged = none ∧ t.keying.state ≠ .hold))
      ∧ all = answered (State.retireNext s1
          (State.settleKeying s1 (allSlots.foldl (fun u i => State.abortRecord u i) s1)))
      ∧ (s.keying.state ≠ .hold → ∃ t : State, all = answered t
        ∧ (∀ i, t.record i = (s.record i).map (fun (r : Record) => match r.state with
            | .shadow => r
            | .onAir =>
              if r.stop = none then { r with stop := some { symbol := s.pacer.symbol, outcome := .aborted } } else r
            | _ => { r with state := .shadow, shadow := some .aborted, chains := Vector.replicate 16 [] }))
        ∧ (s.keying.state ≠ .lead → t.keying = s.keying)
        ∧ (∀ i r, s.keying.state = .lead → s.record i = some r → r.state = .keying →
          (∀ j q, s.record j = some q → q.state = .keying → j = i) → r.row.tail ≤ 1000000 →
          t.keying = if r.row.tail = 0 then idle else { s.keying with
            state := .tail, current := none, bridged := none, restRow := some r.row, endInstant := none,
            tailEnd := some (s.time.clock.add r.row.tail), mod := r.row.rest, modstb := true })
        ∧ t = { s1 with
            table := t.table
            keying := t.keying
            pending := t.pending
            symbols := { s.symbols with
              free := s.symbols.free
                ++ (s.records.filter (fun (r : Record) => decide (r.state ≠ .shadow ∧ r.state ≠ .onAir))).flatMap Record.blocks } }
        ∧ ∃ cs : List Instr, t.pending = cs ++ s.pending ∧ ∀ c, c ∈ cs ↔ ∃ i r, c = .retirement i
          ∧ s.record i = some r ∧ r.state ≠ .shadow ∧ r.state ≠ .onAir
          ∧ (r.nominalEnd.add s.store.settings.guard).diff s.time.clock ≤ 0)
      ∧ (∀ row, s.keying.state = .hold → s.keying.restRow = some row → 1 ≤ row.tail → row.tail ≤ 1000000 →
        (∃ i r, s.record i = some r ∧ r.state = .keying)
          ∨ (s.keying.current = none ∧ s.keying.endInstant ≠ none ∧ ∃ b q, s.keying.bridged = some b
            ∧ s.record b = some q ∧ q.state = .ready) →
        ∃ t, all = answered t ∧ t.keying = { s.keying with
          state := .tail, current := none, bridged := none, endInstant := none,
          tailEnd := some (s.time.clock.add row.tail) })
      ∧ (∀ sel : Byte, 1 < sel.toNat → exec (.abort h (sel :: n)) s = .next (s1.answer h .abort .range []))

/-- ACK_ALARMS clears the latches named whatever their conditions, CLEAR_COUNTERS every counter, its own taking among them,
and neither anything else but the reply (R165, R172, R174). The alarm output is asserted exactly while a latch is set whose
alarm is enabled (R175). One occurrence raises its counter by 1, up to 4 294 967 295, and no other (R171). -/
def Obligations.AckAndClearTouchNothingElse : Prop :=
  (∀ (s : State) (h : Handed) (set : Byte), s.engine = .free →
    let s1 := s.bump (.mgmt .requestsTaken)
    exec (.ackAlarms h [set]) s = .next ({ s1 with latches := s.latches &&& ~~~set }.answer h .ackAlarms .done [])
      ∧ exec (.clearCounters h []) s =
          .next ({ s with counters := Vector.replicate 50 0 }.answer h .clearCounters .done []))
    ∧ (∀ (s : State) (c : Counter),
      (s.bump c).counter c = (if s.counter c = 4294967295 then 4294967295 else s.counter c + 1)
        ∧ (∀ d, d ≠ c → (s.bump c).counter d = s.counter d) ∧ s.bump c = { s with counters := (s.bump c).counters })
    ∧ ∀ s : State, s.alarmOut = true ↔
      ∃ i, i < 8 ∧ s.latches.getLsbD i = true ∧ s.store.settings.alarmEnable.getLsbD i = true

/-- SET_LINK_RATE: RANGE, DONE with no change for the code held, and otherwise the settings record at once and the line
where R73 says: behind the replies queued for a unicast request on the link itself, at once from elsewhere, ending an
attempt in progress as BAD_CHAR (R73, R74, R166; log 43). -/
def Obligations.LinkRateFollowsTheReply : Prop :=
  ∀ (s : State) (h : Handed) (l : Link) (code : Byte), s.engine = .free →
    let s1 := s.bump (.mgmt .requestsTaken)
    let s2 := ({ s1 with store := { s1.store with
      settings := s1.store.settings.setRate l code.toNat } }).answer h .setLinkRate .done []
    let go := exec (.setLinkRate h [linkCode l, code]) s
    (linkCode .a = 0x00 ∧ linkCode .b = 0x01)
      ∧ (∀ t : Settings, t.rate .a = t.rateA ∧ t.rate .b = t.rateB
        ∧ ∀ n, t.setRate .a n = { t with rateA := n } ∧ t.setRate .b n = { t with rateB := n })
      ∧ (code = 0 ∨ 7 < code.toNat → go = .next (s1.answer h .setLinkRate .range []))
      ∧ (∀ b : Byte, 1 < b.toNat → exec (.setLinkRate h [b, code]) s = .next (s1.answer h .setLinkRate .range []))
      ∧ (1 ≤ code.toNat → code.toNat ≤ 7 → s.store.settings.rate l = code.toNat →
        go = .next (s1.answer h .setLinkRate .done []))
      ∧ (1 ≤ code.toNat → code.toNat ≤ 7 → s.store.settings.rate l ≠ code.toNat →
          (h.addressing = .unicast → h.link = l → go = .next (s2.setLink l { s2.link l with
            rateChange := some { code := code.toNat, after := (s2.link l).replies.length } }))
          ∧ (h.addressing ≠ .unicast ∨ h.link ≠ l → (s.link l).deframer = .hunt →
            go = .next (s2.setLink l { s2.link l with lineRate := code.toNat, rateChange := none }))
          ∧ (h.addressing ≠ .unicast ∨ h.link ≠ l → (s.link l).deframer ≠ .hunt →
            go = .next ((s2.setLink l { s2.link l with
              lineRate := code.toNat, rateChange := none, deframer := .hunt, gapTimer := none }).bump
                (.link l (.attempt .badChar)))))

end Obligations
end

