-- ==== Sys2Proof/Laws/Memory.lean ====
section
/-! SUPPORT. The block pool's memory: a read after a write, the other addresses, and the canonical form, which every
operation keeps. -/

namespace Sys2Proof.Machine

set_option Elab.async false

/-- Nothing listed below `lo` in a memory canonical from `lo` on. -/
theorem Memory.read_below (m : Memory) (lo a : Nat) (h : m.wfFrom lo = true) (ha : a < lo) : m.read a = 0 := by
  induction m generalizing lo with
  | nil => rfl
  | cons e rest ih =>
    obtain ⟨k, v⟩ := e
    simp only [Memory.wfFrom, Bool.and_eq_true, decide_eq_true_eq] at h
    have hk : k ≠ a := by omega
    simp only [Memory.read, if_neg hk]
    exact ih (k + 1) h.2 (by omega)

/-- A memory canonical from an address on is so from any lower one. -/
theorem Memory.wfFrom_mono (m : Memory) (lo lo' : Nat) (h : m.wfFrom lo = true) (hle : lo' ≤ lo) :
    m.wfFrom lo' = true := by
  cases m with
  | nil => rfl
  | cons e rest =>
    obtain ⟨k, v⟩ := e
    simp only [Memory.wfFrom, Bool.and_eq_true, decide_eq_true_eq] at h ⊢
    exact ⟨⟨by omega, h.1.2⟩, h.2⟩

/-- A write keeps the canonical form from any address not above the written one. -/
theorem Memory.write_wfFrom (m : Memory) (lo a : Nat) (v : Byte) (h : m.wfFrom lo = true) (ha : lo ≤ a) :
    (m.write a v).wfFrom lo = true := by
  induction m generalizing lo with
  | nil =>
    simp only [Memory.write]
    split
    · rfl
    · simp_all [Memory.wfFrom]
  | cons e rest ih =>
    obtain ⟨k, w⟩ := e
    have h' := h
    simp only [Memory.wfFrom, Bool.and_eq_true, decide_eq_true_eq] at h'
    simp only [Memory.write]
    split
    · rename_i hak
      split
      · exact h
      · simp_all [Memory.wfFrom]
    · split
      · split
        · exact Memory.wfFrom_mono rest (k + 1) lo h'.2 (by omega)
        · simp_all [Memory.wfFrom]
      · simp only [Memory.wfFrom, Bool.and_eq_true, decide_eq_true_eq]
        exact ⟨⟨h'.1.1, h'.1.2⟩, ih (k + 1) h'.2 (by omega)⟩

/-- A write keeps the canonical form. -/
theorem Memory.write_wf (m : Memory) (a : Nat) (v : Byte) (h : m.wf = true) : (m.write a v).wf = true :=
  Memory.write_wfFrom m 0 a v h (Nat.zero_le a)

/-- A write of a run of bytes keeps the canonical form. -/
theorem Memory.writeRun_wf (bs : List Byte) (m : Memory) (a : Nat) (h : m.wf = true) :
    (m.writeRun a bs).wf = true := by
  induction bs generalizing m a with
  | nil => exact h
  | cons b rest ih => exact ih _ _ (Memory.write_wf m a b h)

/-- What any address reads as after a write. -/
theorem Memory.read_write (m : Memory) (lo a b : Nat) (v : Byte) (h : m.wfFrom lo = true) :
    (m.write a v).read b = if b = a then v else m.read b := by
  induction m generalizing lo with
  | nil =>
    simp only [Memory.write, Memory.read]
    split <;> split <;> (simp_all [Memory.read]; try omega)
  | cons e rest ih =>
    obtain ⟨k, w⟩ := e
    simp only [Memory.wfFrom, Bool.and_eq_true, decide_eq_true_eq] at h
    have hrest : a ≤ k → Memory.read rest a = 0 := fun hak => Memory.read_below rest (k + 1) a h.2 (by omega)
    have hih := ih (k + 1) h.2
    simp only [Memory.write]
    split
    · split
      · by_cases hb : b = a
        · subst hb
          rw [if_pos rfl, Memory.read, if_neg (by omega), hrest (by omega)]
          simp_all
        · rw [if_neg hb]
      · by_cases hb : b = a
        · subst hb; simp [Memory.read]
        · rw [if_neg hb, Memory.read, if_neg (Ne.symm hb)]
    · split
      · rename_i heq
        subst heq
        split
        · by_cases hb : b = a
          · subst hb; rw [if_pos rfl, hrest (by omega)]; simp_all
          · rw [if_neg hb, Memory.read, if_neg (Ne.symm hb)]
        · by_cases hb : b = a
          · subst hb; simp [Memory.read]
          · simp [Memory.read, if_neg hb, if_neg (Ne.symm hb)]
      · by_cases hk : k = b
        · subst hk
          have hne : ¬ k = a := by omega
          simp [Memory.read, hne]
        · simp [Memory.read, hk, hih]

/-- A read after a write to the same address gives what was written. -/
theorem Memory.read_write_same (m : Memory) (a : Nat) (v : Byte) (h : m.wf = true) : (m.write a v).read a = v := by
  simp [Memory.read_write m 0 a a v h]

/-- A write leaves every other address alone. -/
theorem Memory.read_write_other (m : Memory) (a b : Nat) (v : Byte) (h : m.wf = true) (hab : b ≠ a) :
    (m.write a v).read b = m.read b := by
  simp [Memory.read_write m 0 a b v h, hab]

/-- What any address reads as after a run of bytes is written. -/
theorem Memory.read_writeRun (bs : List Byte) (m : Memory) (a b : Nat) (h : m.wf = true) :
    (m.writeRun a bs).read b = if a ≤ b then (bs[b - a]?).getD (m.read b) else m.read b := by
  induction bs generalizing m a with
  | nil => simp [Memory.writeRun]
  | cons x rest ih =>
    simp only [Memory.writeRun]
    rw [ih _ _ (Memory.write_wf m a x h), Memory.read_write m 0 a b x h]
    by_cases h1 : a + 1 ≤ b
    · have e : b - a = (b - (a + 1)) + 1 := by omega
      have hne : b ≠ a := by omega
      simp [h1, show a ≤ b by omega, e, hne]
    · by_cases h2 : b = a
      · subst h2; simp
      · simp [h1, h2, show ¬ a ≤ b by omega]

/-- A block written keeps the canonical form. -/
theorem SymbolStore.writeBlock_wf (t : SymbolStore) (b : Block) (bytes : List Byte) (h : t.memory.wf = true) :
    (t.writeBlock b bytes).memory.wf = true := Memory.writeRun_wf _ _ _ h

/-- A chain written keeps the canonical form. -/
theorem SymbolStore.writeChain_wf (bs : List Block) (t : SymbolStore) (bytes : List Byte) (h : t.memory.wf = true) :
    (t.writeChain bs bytes).memory.wf = true := by
  induction bs generalizing t bytes with
  | nil => exact h
  | cons b rest ih => exact ih _ _ (SymbolStore.writeBlock_wf t b _ h)

/-- An allocation keeps the canonical form. -/
theorem SymbolStore.allocate_wf (t u : SymbolStore) (p : Nat) (bytes : List Byte) (chain : List Block)
    (h : t.memory.wf = true) (ha : t.allocate p bytes = some (chain, u)) : u.memory.wf = true := by
  simp only [SymbolStore.allocate] at ha
  split at ha
  · cases ha
  · cases ha
    exact SymbolStore.writeChain_wf _ _ _ h

/-- The reset memory has the canonical form. -/
theorem State.reset_memory_wf : State.reset.symbols.memory.wf = true := rfl

end Sys2Proof.Machine
end

