-- ==== Sys2Proof/Laws/State.lean ====
section
/-! SUPPORT. What each named update of the state leaves alone: one lemma per field per update, so that no later proof
unfolds a record update. -/

namespace Sys2Proof.Machine

set_option Elab.async false

/-! ### A record put in its slot -/

@[simp] theorem State.setRecord_time (s : State) (i : Slot) (r : Record) : (s.setRecord i r).time = s.time := rfl
@[simp] theorem State.setRecord_store (s : State) (i : Slot) (r : Record) : (s.setRecord i r).store = s.store := rfl
@[simp] theorem State.setRecord_linkA (s : State) (i : Slot) (r : Record) : (s.setRecord i r).linkA = s.linkA := rfl
@[simp] theorem State.setRecord_linkB (s : State) (i : Slot) (r : Record) : (s.setRecord i r).linkB = s.linkB := rfl
@[simp] theorem State.setRecord_arbiter (s : State) (i : Slot) (r : Record) :
    (s.setRecord i r).arbiter = s.arbiter := rfl
@[simp] theorem State.setRecord_symbols (s : State) (i : Slot) (r : Record) :
    (s.setRecord i r).symbols = s.symbols := rfl
@[simp] theorem State.setRecord_keying (s : State) (i : Slot) (r : Record) : (s.setRecord i r).keying = s.keying := rfl
@[simp] theorem State.setRecord_pacer (s : State) (i : Slot) (r : Record) : (s.setRecord i r).pacer = s.pacer := rfl
@[simp] theorem State.setRecord_engine (s : State) (i : Slot) (r : Record) : (s.setRecord i r).engine = s.engine := rfl
@[simp] theorem State.setRecord_restartCalled (s : State) (i : Slot) (r : Record) :
    (s.setRecord i r).restartCalled = s.restartCalled := rfl
@[simp] theorem State.setRecord_history (s : State) (i : Slot) (r : Record) :
    (s.setRecord i r).history = s.history := rfl
@[simp] theorem State.setRecord_counters (s : State) (i : Slot) (r : Record) :
    (s.setRecord i r).counters = s.counters := rfl
@[simp] theorem State.setRecord_latches (s : State) (i : Slot) (r : Record) :
    (s.setRecord i r).latches = s.latches := rfl
@[simp] theorem State.setRecord_free (s : State) (i : Slot) (r : Record) : (s.setRecord i r).free = s.free := rfl
@[simp] theorem State.setRecord_pending (s : State) (i : Slot) (r : Record) :
    (s.setRecord i r).pending = s.pending := rfl

/-! ### A slot freed -/

@[simp] theorem State.freeSlot_time (s : State) (i : Slot) : (s.freeSlot i).time = s.time := rfl
@[simp] theorem State.freeSlot_store (s : State) (i : Slot) : (s.freeSlot i).store = s.store := rfl
@[simp] theorem State.freeSlot_linkA (s : State) (i : Slot) : (s.freeSlot i).linkA = s.linkA := rfl
@[simp] theorem State.freeSlot_linkB (s : State) (i : Slot) : (s.freeSlot i).linkB = s.linkB := rfl
@[simp] theorem State.freeSlot_arbiter (s : State) (i : Slot) : (s.freeSlot i).arbiter = s.arbiter := rfl
@[simp] theorem State.freeSlot_symbols (s : State) (i : Slot) : (s.freeSlot i).symbols = s.symbols := rfl
@[simp] theorem State.freeSlot_keying (s : State) (i : Slot) : (s.freeSlot i).keying = s.keying := rfl
@[simp] theorem State.freeSlot_pacer (s : State) (i : Slot) : (s.freeSlot i).pacer = s.pacer := rfl
@[simp] theorem State.freeSlot_engine (s : State) (i : Slot) : (s.freeSlot i).engine = s.engine := rfl
@[simp] theorem State.freeSlot_restartCalled (s : State) (i : Slot) :
    (s.freeSlot i).restartCalled = s.restartCalled := rfl
@[simp] theorem State.freeSlot_history (s : State) (i : Slot) : (s.freeSlot i).history = s.history := rfl
@[simp] theorem State.freeSlot_counters (s : State) (i : Slot) : (s.freeSlot i).counters = s.counters := rfl
@[simp] theorem State.freeSlot_latches (s : State) (i : Slot) : (s.freeSlot i).latches = s.latches := rfl
@[simp] theorem State.freeSlot_free (s : State) (i : Slot) : (s.freeSlot i).free = s.free := rfl
@[simp] theorem State.freeSlot_pending (s : State) (i : Slot) : (s.freeSlot i).pending = s.pending := rfl

/-! ### The dependent marks cleared -/

@[simp] theorem State.clearDependents_time (s : State) : s.clearDependents.time = s.time := rfl
@[simp] theorem State.clearDependents_store (s : State) : s.clearDependents.store = s.store := rfl
@[simp] theorem State.clearDependents_linkA (s : State) : s.clearDependents.linkA = s.linkA := rfl
@[simp] theorem State.clearDependents_linkB (s : State) : s.clearDependents.linkB = s.linkB := rfl
@[simp] theorem State.clearDependents_arbiter (s : State) : s.clearDependents.arbiter = s.arbiter := rfl
@[simp] theorem State.clearDependents_symbols (s : State) : s.clearDependents.symbols = s.symbols := rfl
@[simp] theorem State.clearDependents_keying (s : State) : s.clearDependents.keying = s.keying := rfl
@[simp] theorem State.clearDependents_pacer (s : State) : s.clearDependents.pacer = s.pacer := rfl
@[simp] theorem State.clearDependents_engine (s : State) : s.clearDependents.engine = s.engine := rfl
@[simp] theorem State.clearDependents_restartCalled (s : State) :
    s.clearDependents.restartCalled = s.restartCalled := rfl
@[simp] theorem State.clearDependents_history (s : State) : s.clearDependents.history = s.history := rfl
@[simp] theorem State.clearDependents_counters (s : State) : s.clearDependents.counters = s.counters := rfl
@[simp] theorem State.clearDependents_latches (s : State) : s.clearDependents.latches = s.latches := rfl
@[simp] theorem State.clearDependents_free (s : State) : s.clearDependents.free = s.free := rfl
@[simp] theorem State.clearDependents_pending (s : State) : s.clearDependents.pending = s.pending := rfl

/-! ### A counter raised -/

@[simp] theorem State.bump_time (s : State) (c : Counter) : (s.bump c).time = s.time := rfl
@[simp] theorem State.bump_store (s : State) (c : Counter) : (s.bump c).store = s.store := rfl
@[simp] theorem State.bump_linkA (s : State) (c : Counter) : (s.bump c).linkA = s.linkA := rfl
@[simp] theorem State.bump_linkB (s : State) (c : Counter) : (s.bump c).linkB = s.linkB := rfl
@[simp] theorem State.bump_arbiter (s : State) (c : Counter) : (s.bump c).arbiter = s.arbiter := rfl
@[simp] theorem State.bump_symbols (s : State) (c : Counter) : (s.bump c).symbols = s.symbols := rfl
@[simp] theorem State.bump_table (s : State) (c : Counter) : (s.bump c).table = s.table := rfl
@[simp] theorem State.bump_keying (s : State) (c : Counter) : (s.bump c).keying = s.keying := rfl
@[simp] theorem State.bump_pacer (s : State) (c : Counter) : (s.bump c).pacer = s.pacer := rfl
@[simp] theorem State.bump_engine (s : State) (c : Counter) : (s.bump c).engine = s.engine := rfl
@[simp] theorem State.bump_restartCalled (s : State) (c : Counter) : (s.bump c).restartCalled = s.restartCalled := rfl
@[simp] theorem State.bump_history (s : State) (c : Counter) : (s.bump c).history = s.history := rfl
@[simp] theorem State.bump_latches (s : State) (c : Counter) : (s.bump c).latches = s.latches := rfl
@[simp] theorem State.bump_free (s : State) (c : Counter) : (s.bump c).free = s.free := rfl
@[simp] theorem State.bump_pending (s : State) (c : Counter) : (s.bump c).pending = s.pending := rfl

/-! ### A latch set -/

@[simp] theorem State.latch_time (s : State) (a : Alarm) : (s.latch a).time = s.time := rfl
@[simp] theorem State.latch_store (s : State) (a : Alarm) : (s.latch a).store = s.store := rfl
@[simp] theorem State.latch_linkA (s : State) (a : Alarm) : (s.latch a).linkA = s.linkA := rfl
@[simp] theorem State.latch_linkB (s : State) (a : Alarm) : (s.latch a).linkB = s.linkB := rfl
@[simp] theorem State.latch_arbiter (s : State) (a : Alarm) : (s.latch a).arbiter = s.arbiter := rfl
@[simp] theorem State.latch_symbols (s : State) (a : Alarm) : (s.latch a).symbols = s.symbols := rfl
@[simp] theorem State.latch_table (s : State) (a : Alarm) : (s.latch a).table = s.table := rfl
@[simp] theorem State.latch_keying (s : State) (a : Alarm) : (s.latch a).keying = s.keying := rfl
@[simp] theorem State.latch_pacer (s : State) (a : Alarm) : (s.latch a).pacer = s.pacer := rfl
@[simp] theorem State.latch_engine (s : State) (a : Alarm) : (s.latch a).engine = s.engine := rfl
@[simp] theorem State.latch_restartCalled (s : State) (a : Alarm) : (s.latch a).restartCalled = s.restartCalled := rfl
@[simp] theorem State.latch_history (s : State) (a : Alarm) : (s.latch a).history = s.history := rfl
@[simp] theorem State.latch_counters (s : State) (a : Alarm) : (s.latch a).counters = s.counters := rfl
@[simp] theorem State.latch_free (s : State) (a : Alarm) : (s.latch a).free = s.free := rfl
@[simp] theorem State.latch_pending (s : State) (a : Alarm) : (s.latch a).pending = s.pending := rfl

/-! ### Blocks released -/

@[simp] theorem State.releaseBlocks_time (s : State) (r : Record) : (s.releaseBlocks r).time = s.time := rfl
@[simp] theorem State.releaseBlocks_store (s : State) (r : Record) : (s.releaseBlocks r).store = s.store := rfl
@[simp] theorem State.releaseBlocks_linkA (s : State) (r : Record) : (s.releaseBlocks r).linkA = s.linkA := rfl
@[simp] theorem State.releaseBlocks_linkB (s : State) (r : Record) : (s.releaseBlocks r).linkB = s.linkB := rfl
@[simp] theorem State.releaseBlocks_arbiter (s : State) (r : Record) : (s.releaseBlocks r).arbiter = s.arbiter := rfl
@[simp] theorem State.releaseBlocks_table (s : State) (r : Record) : (s.releaseBlocks r).table = s.table := rfl
@[simp] theorem State.releaseBlocks_keying (s : State) (r : Record) : (s.releaseBlocks r).keying = s.keying := rfl
@[simp] theorem State.releaseBlocks_pacer (s : State) (r : Record) : (s.releaseBlocks r).pacer = s.pacer := rfl
@[simp] theorem State.releaseBlocks_engine (s : State) (r : Record) : (s.releaseBlocks r).engine = s.engine := rfl
@[simp] theorem State.releaseBlocks_restartCalled (s : State) (r : Record) :
    (s.releaseBlocks r).restartCalled = s.restartCalled := rfl
@[simp] theorem State.releaseBlocks_history (s : State) (r : Record) : (s.releaseBlocks r).history = s.history := rfl
@[simp] theorem State.releaseBlocks_counters (s : State) (r : Record) : (s.releaseBlocks r).counters = s.counters := rfl
@[simp] theorem State.releaseBlocks_latches (s : State) (r : Record) : (s.releaseBlocks r).latches = s.latches := rfl
@[simp] theorem State.releaseBlocks_free (s : State) (r : Record) : (s.releaseBlocks r).free = s.free := rfl
@[simp] theorem State.releaseBlocks_pending (s : State) (r : Record) : (s.releaseBlocks r).pending = s.pending := rfl

/-! ### A word put out -/

@[simp] theorem State.put_time (s : State) (w : Word16) : (s.put w).time = s.time := rfl
@[simp] theorem State.put_store (s : State) (w : Word16) : (s.put w).store = s.store := rfl
@[simp] theorem State.put_linkA (s : State) (w : Word16) : (s.put w).linkA = s.linkA := rfl
@[simp] theorem State.put_linkB (s : State) (w : Word16) : (s.put w).linkB = s.linkB := rfl
@[simp] theorem State.put_arbiter (s : State) (w : Word16) : (s.put w).arbiter = s.arbiter := rfl
@[simp] theorem State.put_symbols (s : State) (w : Word16) : (s.put w).symbols = s.symbols := rfl
@[simp] theorem State.put_table (s : State) (w : Word16) : (s.put w).table = s.table := rfl
@[simp] theorem State.put_pacer (s : State) (w : Word16) : (s.put w).pacer = s.pacer := rfl
@[simp] theorem State.put_engine (s : State) (w : Word16) : (s.put w).engine = s.engine := rfl
@[simp] theorem State.put_restartCalled (s : State) (w : Word16) : (s.put w).restartCalled = s.restartCalled := rfl
@[simp] theorem State.put_history (s : State) (w : Word16) : (s.put w).history = s.history := rfl
@[simp] theorem State.put_counters (s : State) (w : Word16) : (s.put w).counters = s.counters := rfl
@[simp] theorem State.put_latches (s : State) (w : Word16) : (s.put w).latches = s.latches := rfl
@[simp] theorem State.put_free (s : State) (w : Word16) : (s.put w).free = s.free := rfl
@[simp] theorem State.put_pending (s : State) (w : Word16) : (s.put w).pending = s.pending := rfl

/-! ### A profile replaced -/

@[simp] theorem State.setProfile_time (s : State) (p : Fin 4) (f : Profile) : (s.setProfile p f).time = s.time := rfl
@[simp] theorem State.setProfile_linkA (s : State) (p : Fin 4) (f : Profile) : (s.setProfile p f).linkA = s.linkA := rfl
@[simp] theorem State.setProfile_linkB (s : State) (p : Fin 4) (f : Profile) : (s.setProfile p f).linkB = s.linkB := rfl
@[simp] theorem State.setProfile_arbiter (s : State) (p : Fin 4) (f : Profile) :
    (s.setProfile p f).arbiter = s.arbiter := rfl
@[simp] theorem State.setProfile_symbols (s : State) (p : Fin 4) (f : Profile) :
    (s.setProfile p f).symbols = s.symbols := rfl
@[simp] theorem State.setProfile_table (s : State) (p : Fin 4) (f : Profile) : (s.setProfile p f).table = s.table := rfl
@[simp] theorem State.setProfile_keying (s : State) (p : Fin 4) (f : Profile) :
    (s.setProfile p f).keying = s.keying := rfl
@[simp] theorem State.setProfile_pacer (s : State) (p : Fin 4) (f : Profile) : (s.setProfile p f).pacer = s.pacer := rfl
@[simp] theorem State.setProfile_engine (s : State) (p : Fin 4) (f : Profile) :
    (s.setProfile p f).engine = s.engine := rfl
@[simp] theorem State.setProfile_restartCalled (s : State) (p : Fin 4) (f : Profile) :
    (s.setProfile p f).restartCalled = s.restartCalled := rfl
@[simp] theorem State.setProfile_history (s : State) (p : Fin 4) (f : Profile) :
    (s.setProfile p f).history = s.history := rfl
@[simp] theorem State.setProfile_counters (s : State) (p : Fin 4) (f : Profile) :
    (s.setProfile p f).counters = s.counters := rfl
@[simp] theorem State.setProfile_latches (s : State) (p : Fin 4) (f : Profile) :
    (s.setProfile p f).latches = s.latches := rfl
@[simp] theorem State.setProfile_free (s : State) (p : Fin 4) (f : Profile) : (s.setProfile p f).free = s.free := rfl
@[simp] theorem State.setProfile_pending (s : State) (p : Fin 4) (f : Profile) :
    (s.setProfile p f).pending = s.pending := rfl

/-! ### The pending switch replaced -/

@[simp] theorem State.setPending_time (s : State) (p : Option PendingSwitch) : (s.setPending p).time = s.time := rfl
@[simp] theorem State.setPending_linkA (s : State) (p : Option PendingSwitch) : (s.setPending p).linkA = s.linkA := rfl
@[simp] theorem State.setPending_linkB (s : State) (p : Option PendingSwitch) : (s.setPending p).linkB = s.linkB := rfl
@[simp] theorem State.setPending_arbiter (s : State) (p : Option PendingSwitch) :
    (s.setPending p).arbiter = s.arbiter := rfl
@[simp] theorem State.setPending_symbols (s : State) (p : Option PendingSwitch) :
    (s.setPending p).symbols = s.symbols := rfl
@[simp] theorem State.setPending_keying (s : State) (p : Option PendingSwitch) :
    (s.setPending p).keying = s.keying := rfl
@[simp] theorem State.setPending_pacer (s : State) (p : Option PendingSwitch) : (s.setPending p).pacer = s.pacer := rfl
@[simp] theorem State.setPending_engine (s : State) (p : Option PendingSwitch) :
    (s.setPending p).engine = s.engine := rfl
@[simp] theorem State.setPending_restartCalled (s : State) (p : Option PendingSwitch) :
    (s.setPending p).restartCalled = s.restartCalled := rfl
@[simp] theorem State.setPending_history (s : State) (p : Option PendingSwitch) :
    (s.setPending p).history = s.history := rfl
@[simp] theorem State.setPending_counters (s : State) (p : Option PendingSwitch) :
    (s.setPending p).counters = s.counters := rfl
@[simp] theorem State.setPending_latches (s : State) (p : Option PendingSwitch) :
    (s.setPending p).latches = s.latches := rfl
@[simp] theorem State.setPending_free (s : State) (p : Option PendingSwitch) : (s.setPending p).free = s.free := rfl
@[simp] theorem State.setPending_pending (s : State) (p : Option PendingSwitch) :
    (s.setPending p).pending = s.pending := rfl

/-! ### A carry taken -/

@[simp] theorem State.takeCarry_time (s : State) : s.takeCarry.time = s.time := rfl
@[simp] theorem State.takeCarry_store (s : State) : s.takeCarry.store = s.store := rfl
@[simp] theorem State.takeCarry_linkA (s : State) : s.takeCarry.linkA = s.linkA := rfl
@[simp] theorem State.takeCarry_linkB (s : State) : s.takeCarry.linkB = s.linkB := rfl
@[simp] theorem State.takeCarry_arbiter (s : State) : s.takeCarry.arbiter = s.arbiter := rfl
@[simp] theorem State.takeCarry_symbols (s : State) : s.takeCarry.symbols = s.symbols := rfl
@[simp] theorem State.takeCarry_table (s : State) : s.takeCarry.table = s.table := rfl
@[simp] theorem State.takeCarry_keying (s : State) : s.takeCarry.keying = s.keying := rfl
@[simp] theorem State.takeCarry_engine (s : State) : s.takeCarry.engine = s.engine := rfl
@[simp] theorem State.takeCarry_restartCalled (s : State) : s.takeCarry.restartCalled = s.restartCalled := rfl
@[simp] theorem State.takeCarry_history (s : State) : s.takeCarry.history = s.history := rfl
@[simp] theorem State.takeCarry_counters (s : State) : s.takeCarry.counters = s.counters := rfl
@[simp] theorem State.takeCarry_latches (s : State) : s.takeCarry.latches = s.latches := rfl
@[simp] theorem State.takeCarry_free (s : State) : s.takeCarry.free = s.free := rfl
@[simp] theorem State.takeCarry_pending (s : State) : s.takeCarry.pending = s.pending := rfl

/-! ### IDLE entered -/

@[simp] theorem State.enterIdle_time (s : State) : s.enterIdle.time = s.time := rfl
@[simp] theorem State.enterIdle_store (s : State) : s.enterIdle.store = s.store := rfl
@[simp] theorem State.enterIdle_linkA (s : State) : s.enterIdle.linkA = s.linkA := rfl
@[simp] theorem State.enterIdle_linkB (s : State) : s.enterIdle.linkB = s.linkB := rfl
@[simp] theorem State.enterIdle_arbiter (s : State) : s.enterIdle.arbiter = s.arbiter := rfl
@[simp] theorem State.enterIdle_symbols (s : State) : s.enterIdle.symbols = s.symbols := rfl
@[simp] theorem State.enterIdle_table (s : State) : s.enterIdle.table = s.table := rfl
@[simp] theorem State.enterIdle_pacer (s : State) : s.enterIdle.pacer = s.pacer := rfl
@[simp] theorem State.enterIdle_engine (s : State) : s.enterIdle.engine = s.engine := rfl
@[simp] theorem State.enterIdle_restartCalled (s : State) : s.enterIdle.restartCalled = s.restartCalled := rfl
@[simp] theorem State.enterIdle_history (s : State) : s.enterIdle.history = s.history := rfl
@[simp] theorem State.enterIdle_counters (s : State) : s.enterIdle.counters = s.counters := rfl
@[simp] theorem State.enterIdle_latches (s : State) : s.enterIdle.latches = s.latches := rfl
@[simp] theorem State.enterIdle_free (s : State) : s.enterIdle.free = s.free := rfl
@[simp] theorem State.enterIdle_pending (s : State) : s.enterIdle.pending = s.pending := rfl

/-! ### A tick of the site clock -/

@[simp] theorem State.clockTick_store (s : State) : s.clockTick.store = s.store := rfl
@[simp] theorem State.clockTick_linkA (s : State) : s.clockTick.linkA = s.linkA := rfl
@[simp] theorem State.clockTick_linkB (s : State) : s.clockTick.linkB = s.linkB := rfl
@[simp] theorem State.clockTick_arbiter (s : State) : s.clockTick.arbiter = s.arbiter := rfl
@[simp] theorem State.clockTick_symbols (s : State) : s.clockTick.symbols = s.symbols := rfl
@[simp] theorem State.clockTick_table (s : State) : s.clockTick.table = s.table := rfl
@[simp] theorem State.clockTick_engine (s : State) : s.clockTick.engine = s.engine := rfl
@[simp] theorem State.clockTick_restartCalled (s : State) : s.clockTick.restartCalled = s.restartCalled := rfl
@[simp] theorem State.clockTick_history (s : State) : s.clockTick.history = s.history := rfl
@[simp] theorem State.clockTick_counters (s : State) : s.clockTick.counters = s.counters := rfl
@[simp] theorem State.clockTick_latches (s : State) : s.clockTick.latches = s.latches := rfl
@[simp] theorem State.clockTick_free (s : State) : s.clockTick.free = s.free := rfl
@[simp] theorem State.clockTick_pending (s : State) : s.clockTick.pending = s.pending := rfl

/-! ### A retirement -/

@[simp] theorem State.retire_time (s : State) (i : Slot) (r : Record) (o : BatchOutcome) :
    (s.retire i r o).time = s.time := rfl
@[simp] theorem State.retire_store (s : State) (i : Slot) (r : Record) (o : BatchOutcome) :
    (s.retire i r o).store = s.store := rfl
@[simp] theorem State.retire_linkA (s : State) (i : Slot) (r : Record) (o : BatchOutcome) :
    (s.retire i r o).linkA = s.linkA := rfl
@[simp] theorem State.retire_linkB (s : State) (i : Slot) (r : Record) (o : BatchOutcome) :
    (s.retire i r o).linkB = s.linkB := rfl
@[simp] theorem State.retire_arbiter (s : State) (i : Slot) (r : Record) (o : BatchOutcome) :
    (s.retire i r o).arbiter = s.arbiter := rfl
@[simp] theorem State.retire_keying (s : State) (i : Slot) (r : Record) (o : BatchOutcome) :
    (s.retire i r o).keying = s.keying := rfl
@[simp] theorem State.retire_pacer (s : State) (i : Slot) (r : Record) (o : BatchOutcome) :
    (s.retire i r o).pacer = s.pacer := rfl
@[simp] theorem State.retire_engine (s : State) (i : Slot) (r : Record) (o : BatchOutcome) :
    (s.retire i r o).engine = s.engine := rfl
@[simp] theorem State.retire_restartCalled (s : State) (i : Slot) (r : Record) (o : BatchOutcome) :
    (s.retire i r o).restartCalled = s.restartCalled := rfl
@[simp] theorem State.retire_latches (s : State) (i : Slot) (r : Record) (o : BatchOutcome) :
    (s.retire i r o).latches = s.latches := rfl
@[simp] theorem State.retire_free (s : State) (i : Slot) (r : Record) (o : BatchOutcome) :
    (s.retire i r o).free = s.free := rfl
@[simp] theorem State.retire_pending (s : State) (i : Slot) (r : Record) (o : BatchOutcome) :
    (s.retire i r o).pending = s.pending := rfl

/-! ### A link replaced -/

@[simp] theorem State.setLink_time (s : State) (l : Link) (c : CarriageLink) :
    (s.setLink l c).time = s.time := by cases l <;> rfl
@[simp] theorem State.setLink_store (s : State) (l : Link) (c : CarriageLink) :
    (s.setLink l c).store = s.store := by cases l <;> rfl
@[simp] theorem State.setLink_arbiter (s : State) (l : Link) (c : CarriageLink) :
    (s.setLink l c).arbiter = s.arbiter := by cases l <;> rfl
@[simp] theorem State.setLink_symbols (s : State) (l : Link) (c : CarriageLink) :
    (s.setLink l c).symbols = s.symbols := by cases l <;> rfl
@[simp] theorem State.setLink_table (s : State) (l : Link) (c : CarriageLink) :
    (s.setLink l c).table = s.table := by cases l <;> rfl
@[simp] theorem State.setLink_keying (s : State) (l : Link) (c : CarriageLink) :
    (s.setLink l c).keying = s.keying := by cases l <;> rfl
@[simp] theorem State.setLink_pacer (s : State) (l : Link) (c : CarriageLink) :
    (s.setLink l c).pacer = s.pacer := by cases l <;> rfl
@[simp] theorem State.setLink_engine (s : State) (l : Link) (c : CarriageLink) :
    (s.setLink l c).engine = s.engine := by cases l <;> rfl
@[simp] theorem State.setLink_restartCalled (s : State) (l : Link) (c : CarriageLink) :
    (s.setLink l c).restartCalled = s.restartCalled := by cases l <;> rfl
@[simp] theorem State.setLink_history (s : State) (l : Link) (c : CarriageLink) :
    (s.setLink l c).history = s.history := by cases l <;> rfl
@[simp] theorem State.setLink_counters (s : State) (l : Link) (c : CarriageLink) :
    (s.setLink l c).counters = s.counters := by cases l <;> rfl
@[simp] theorem State.setLink_latches (s : State) (l : Link) (c : CarriageLink) :
    (s.setLink l c).latches = s.latches := by cases l <;> rfl
@[simp] theorem State.setLink_free (s : State) (l : Link) (c : CarriageLink) :
    (s.setLink l c).free = s.free := by cases l <;> rfl
@[simp] theorem State.setLink_pending (s : State) (l : Link) (c : CarriageLink) :
    (s.setLink l c).pending = s.pending := by cases l <;> rfl

/-! ### The clock state changed -/

@[simp] theorem State.setClockState_store (s : State) (c : ClockState) :
    (s.setClockState c).store = s.store := by unfold State.setClockState; split <;> rfl
@[simp] theorem State.setClockState_linkA (s : State) (c : ClockState) :
    (s.setClockState c).linkA = s.linkA := by unfold State.setClockState; split <;> rfl
@[simp] theorem State.setClockState_linkB (s : State) (c : ClockState) :
    (s.setClockState c).linkB = s.linkB := by unfold State.setClockState; split <;> rfl
@[simp] theorem State.setClockState_arbiter (s : State) (c : ClockState) :
    (s.setClockState c).arbiter = s.arbiter := by unfold State.setClockState; split <;> rfl
@[simp] theorem State.setClockState_symbols (s : State) (c : ClockState) :
    (s.setClockState c).symbols = s.symbols := by unfold State.setClockState; split <;> rfl
@[simp] theorem State.setClockState_table (s : State) (c : ClockState) :
    (s.setClockState c).table = s.table := by unfold State.setClockState; split <;> rfl
@[simp] theorem State.setClockState_keying (s : State) (c : ClockState) :
    (s.setClockState c).keying = s.keying := by unfold State.setClockState; split <;> rfl
@[simp] theorem State.setClockState_pacer (s : State) (c : ClockState) :
    (s.setClockState c).pacer = s.pacer := by unfold State.setClockState; split <;> rfl
@[simp] theorem State.setClockState_engine (s : State) (c : ClockState) :
    (s.setClockState c).engine = s.engine := by unfold State.setClockState; split <;> rfl
@[simp] theorem State.setClockState_restartCalled (s : State) (c : ClockState) :
    (s.setClockState c).restartCalled = s.restartCalled := by unfold State.setClockState; split <;> rfl
@[simp] theorem State.setClockState_history (s : State) (c : ClockState) :
    (s.setClockState c).history = s.history := by unfold State.setClockState; split <;> rfl
@[simp] theorem State.setClockState_counters (s : State) (c : ClockState) :
    (s.setClockState c).counters = s.counters := by unfold State.setClockState; split <;> rfl
@[simp] theorem State.setClockState_free (s : State) (c : ClockState) :
    (s.setClockState c).free = s.free := by unfold State.setClockState; split <;> rfl
@[simp] theorem State.setClockState_pending (s : State) (c : ClockState) :
    (s.setClockState c).pending = s.pending := by unfold State.setClockState; split <;> rfl

/-! ### The NV condition changed -/

@[simp] theorem State.setNvFault_time (s : State) (f : Bool) :
    (s.setNvFault f).time = s.time := by unfold State.setNvFault; split <;> rfl
@[simp] theorem State.setNvFault_linkA (s : State) (f : Bool) :
    (s.setNvFault f).linkA = s.linkA := by unfold State.setNvFault; split <;> rfl
@[simp] theorem State.setNvFault_linkB (s : State) (f : Bool) :
    (s.setNvFault f).linkB = s.linkB := by unfold State.setNvFault; split <;> rfl
@[simp] theorem State.setNvFault_arbiter (s : State) (f : Bool) :
    (s.setNvFault f).arbiter = s.arbiter := by unfold State.setNvFault; split <;> rfl
@[simp] theorem State.setNvFault_symbols (s : State) (f : Bool) :
    (s.setNvFault f).symbols = s.symbols := by unfold State.setNvFault; split <;> rfl
@[simp] theorem State.setNvFault_table (s : State) (f : Bool) :
    (s.setNvFault f).table = s.table := by unfold State.setNvFault; split <;> rfl
@[simp] theorem State.setNvFault_keying (s : State) (f : Bool) :
    (s.setNvFault f).keying = s.keying := by unfold State.setNvFault; split <;> rfl
@[simp] theorem State.setNvFault_pacer (s : State) (f : Bool) :
    (s.setNvFault f).pacer = s.pacer := by unfold State.setNvFault; split <;> rfl
@[simp] theorem State.setNvFault_engine (s : State) (f : Bool) :
    (s.setNvFault f).engine = s.engine := by unfold State.setNvFault; split <;> rfl
@[simp] theorem State.setNvFault_restartCalled (s : State) (f : Bool) :
    (s.setNvFault f).restartCalled = s.restartCalled := by unfold State.setNvFault; split <;> rfl
@[simp] theorem State.setNvFault_history (s : State) (f : Bool) :
    (s.setNvFault f).history = s.history := by unfold State.setNvFault; split <;> rfl
@[simp] theorem State.setNvFault_counters (s : State) (f : Bool) :
    (s.setNvFault f).counters = s.counters := by unfold State.setNvFault; split <;> rfl
@[simp] theorem State.setNvFault_free (s : State) (f : Bool) :
    (s.setNvFault f).free = s.free := by unfold State.setNvFault; split <;> rfl
@[simp] theorem State.setNvFault_pending (s : State) (f : Bool) :
    (s.setNvFault f).pending = s.pending := by unfold State.setNvFault; split <;> rfl

/-! ### TAIL entered -/

@[simp] theorem State.enterTail_time (s : State) (row : ModeRow) (strobe : Bool) :
    (s.enterTail row strobe).time = s.time := by unfold State.enterTail; cases strobe <;> rfl
@[simp] theorem State.enterTail_store (s : State) (row : ModeRow) (strobe : Bool) :
    (s.enterTail row strobe).store = s.store := by unfold State.enterTail; cases strobe <;> rfl
@[simp] theorem State.enterTail_linkA (s : State) (row : ModeRow) (strobe : Bool) :
    (s.enterTail row strobe).linkA = s.linkA := by unfold State.enterTail; cases strobe <;> rfl
@[simp] theorem State.enterTail_linkB (s : State) (row : ModeRow) (strobe : Bool) :
    (s.enterTail row strobe).linkB = s.linkB := by unfold State.enterTail; cases strobe <;> rfl
@[simp] theorem State.enterTail_arbiter (s : State) (row : ModeRow) (strobe : Bool) :
    (s.enterTail row strobe).arbiter = s.arbiter := by unfold State.enterTail; cases strobe <;> rfl
@[simp] theorem State.enterTail_symbols (s : State) (row : ModeRow) (strobe : Bool) :
    (s.enterTail row strobe).symbols = s.symbols := by unfold State.enterTail; cases strobe <;> rfl
@[simp] theorem State.enterTail_table (s : State) (row : ModeRow) (strobe : Bool) :
    (s.enterTail row strobe).table = s.table := by unfold State.enterTail; cases strobe <;> rfl
@[simp] theorem State.enterTail_pacer (s : State) (row : ModeRow) (strobe : Bool) :
    (s.enterTail row strobe).pacer = s.pacer := by unfold State.enterTail; cases strobe <;> rfl
@[simp] theorem State.enterTail_engine (s : State) (row : ModeRow) (strobe : Bool) :
    (s.enterTail row strobe).engine = s.engine := by unfold State.enterTail; cases strobe <;> rfl
@[simp] theorem State.enterTail_restartCalled (s : State) (row : ModeRow) (strobe : Bool) :
    (s.enterTail row strobe).restartCalled = s.restartCalled := by unfold State.enterTail; cases strobe <;> rfl
@[simp] theorem State.enterTail_history (s : State) (row : ModeRow) (strobe : Bool) :
    (s.enterTail row strobe).history = s.history := by unfold State.enterTail; cases strobe <;> rfl
@[simp] theorem State.enterTail_counters (s : State) (row : ModeRow) (strobe : Bool) :
    (s.enterTail row strobe).counters = s.counters := by unfold State.enterTail; cases strobe <;> rfl
@[simp] theorem State.enterTail_latches (s : State) (row : ModeRow) (strobe : Bool) :
    (s.enterTail row strobe).latches = s.latches := by unfold State.enterTail; cases strobe <;> rfl
@[simp] theorem State.enterTail_free (s : State) (row : ModeRow) (strobe : Bool) :
    (s.enterTail row strobe).free = s.free := by unfold State.enterTail; cases strobe <;> rfl
@[simp] theorem State.enterTail_pending (s : State) (row : ModeRow) (strobe : Bool) :
    (s.enterTail row strobe).pending = s.pending := by unfold State.enterTail; cases strobe <;> rfl

/-! ### TAIL entered from HOLD -/

@[simp] theorem State.tailFromHold_time (s : State) : s.tailFromHold.time = s.time := rfl
@[simp] theorem State.tailFromHold_store (s : State) : s.tailFromHold.store = s.store := rfl
@[simp] theorem State.tailFromHold_linkA (s : State) : s.tailFromHold.linkA = s.linkA := rfl
@[simp] theorem State.tailFromHold_linkB (s : State) : s.tailFromHold.linkB = s.linkB := rfl
@[simp] theorem State.tailFromHold_arbiter (s : State) : s.tailFromHold.arbiter = s.arbiter := rfl
@[simp] theorem State.tailFromHold_symbols (s : State) : s.tailFromHold.symbols = s.symbols := rfl
@[simp] theorem State.tailFromHold_table (s : State) : s.tailFromHold.table = s.table := rfl
@[simp] theorem State.tailFromHold_pacer (s : State) : s.tailFromHold.pacer = s.pacer := rfl
@[simp] theorem State.tailFromHold_engine (s : State) : s.tailFromHold.engine = s.engine := rfl
@[simp] theorem State.tailFromHold_restartCalled (s : State) : s.tailFromHold.restartCalled = s.restartCalled := rfl
@[simp] theorem State.tailFromHold_history (s : State) : s.tailFromHold.history = s.history := rfl
@[simp] theorem State.tailFromHold_counters (s : State) : s.tailFromHold.counters = s.counters := rfl
@[simp] theorem State.tailFromHold_latches (s : State) : s.tailFromHold.latches = s.latches := rfl
@[simp] theorem State.tailFromHold_free (s : State) : s.tailFromHold.free = s.free := rfl
@[simp] theorem State.tailFromHold_pending (s : State) : s.tailFromHold.pending = s.pending := rfl

/-! ### A record made SHADOW -/

@[simp] theorem State.becomeShadow_time (s : State) (i : Slot) (o : BatchOutcome) :
    (s.becomeShadow i o).time = s.time := by
  unfold State.becomeShadow; split
  · rfl
  · split <;> rfl
@[simp] theorem State.becomeShadow_store (s : State) (i : Slot) (o : BatchOutcome) :
    (s.becomeShadow i o).store = s.store := by
  unfold State.becomeShadow; split
  · rfl
  · split <;> rfl
@[simp] theorem State.becomeShadow_linkA (s : State) (i : Slot) (o : BatchOutcome) :
    (s.becomeShadow i o).linkA = s.linkA := by
  unfold State.becomeShadow; split
  · rfl
  · split <;> rfl
@[simp] theorem State.becomeShadow_linkB (s : State) (i : Slot) (o : BatchOutcome) :
    (s.becomeShadow i o).linkB = s.linkB := by
  unfold State.becomeShadow; split
  · rfl
  · split <;> rfl
@[simp] theorem State.becomeShadow_arbiter (s : State) (i : Slot) (o : BatchOutcome) :
    (s.becomeShadow i o).arbiter = s.arbiter := by
  unfold State.becomeShadow; split
  · rfl
  · split <;> rfl
@[simp] theorem State.becomeShadow_keying (s : State) (i : Slot) (o : BatchOutcome) :
    (s.becomeShadow i o).keying = s.keying := by
  unfold State.becomeShadow; split
  · rfl
  · split <;> rfl
@[simp] theorem State.becomeShadow_pacer (s : State) (i : Slot) (o : BatchOutcome) :
    (s.becomeShadow i o).pacer = s.pacer := by
  unfold State.becomeShadow; split
  · rfl
  · split <;> rfl
@[simp] theorem State.becomeShadow_engine (s : State) (i : Slot) (o : BatchOutcome) :
    (s.becomeShadow i o).engine = s.engine := by
  unfold State.becomeShadow; split
  · rfl
  · split <;> rfl
@[simp] theorem State.becomeShadow_restartCalled (s : State) (i : Slot) (o : BatchOutcome) :
    (s.becomeShadow i o).restartCalled = s.restartCalled := by
  unfold State.becomeShadow; split
  · rfl
  · split <;> rfl
@[simp] theorem State.becomeShadow_history (s : State) (i : Slot) (o : BatchOutcome) :
    (s.becomeShadow i o).history = s.history := by
  unfold State.becomeShadow; split
  · rfl
  · split <;> rfl
@[simp] theorem State.becomeShadow_counters (s : State) (i : Slot) (o : BatchOutcome) :
    (s.becomeShadow i o).counters = s.counters := by
  unfold State.becomeShadow; split
  · rfl
  · split <;> rfl
@[simp] theorem State.becomeShadow_latches (s : State) (i : Slot) (o : BatchOutcome) :
    (s.becomeShadow i o).latches = s.latches := by
  unfold State.becomeShadow; split
  · rfl
  · split <;> rfl
@[simp] theorem State.becomeShadow_free (s : State) (i : Slot) (o : BatchOutcome) :
    (s.becomeShadow i o).free = s.free := by
  unfold State.becomeShadow; split
  · rfl
  · split <;> rfl
@[simp] theorem State.becomeShadow_pending (s : State) (i : Slot) (o : BatchOutcome) :
    (s.becomeShadow i o).pending = s.pending := by
  unfold State.becomeShadow; split
  · rfl
  · split <;> rfl

/-! ### A record's symbols started -/

@[simp] theorem State.startSymbols_time (s : State) (i : Slot) :
    (s.startSymbols i).time = s.time := by unfold State.startSymbols; split <;> rfl
@[simp] theorem State.startSymbols_store (s : State) (i : Slot) :
    (s.startSymbols i).store = s.store := by unfold State.startSymbols; split <;> rfl
@[simp] theorem State.startSymbols_linkA (s : State) (i : Slot) :
    (s.startSymbols i).linkA = s.linkA := by unfold State.startSymbols; split <;> rfl
@[simp] theorem State.startSymbols_linkB (s : State) (i : Slot) :
    (s.startSymbols i).linkB = s.linkB := by unfold State.startSymbols; split <;> rfl
@[simp] theorem State.startSymbols_arbiter (s : State) (i : Slot) :
    (s.startSymbols i).arbiter = s.arbiter := by unfold State.startSymbols; split <;> rfl
@[simp] theorem State.startSymbols_symbols (s : State) (i : Slot) :
    (s.startSymbols i).symbols = s.symbols := by unfold State.startSymbols; split <;> rfl
@[simp] theorem State.startSymbols_engine (s : State) (i : Slot) :
    (s.startSymbols i).engine = s.engine := by unfold State.startSymbols; split <;> rfl
@[simp] theorem State.startSymbols_restartCalled (s : State) (i : Slot) :
    (s.startSymbols i).restartCalled = s.restartCalled := by unfold State.startSymbols; split <;> rfl
@[simp] theorem State.startSymbols_history (s : State) (i : Slot) :
    (s.startSymbols i).history = s.history := by unfold State.startSymbols; split <;> rfl
@[simp] theorem State.startSymbols_counters (s : State) (i : Slot) :
    (s.startSymbols i).counters = s.counters := by unfold State.startSymbols; split <;> rfl
@[simp] theorem State.startSymbols_latches (s : State) (i : Slot) :
    (s.startSymbols i).latches = s.latches := by unfold State.startSymbols; split <;> rfl
@[simp] theorem State.startSymbols_free (s : State) (i : Slot) :
    (s.startSymbols i).free = s.free := by unfold State.startSymbols; split <;> rfl
@[simp] theorem State.startSymbols_pending (s : State) (i : Slot) :
    (s.startSymbols i).pending = s.pending := by unfold State.startSymbols; split <;> rfl

/-! ### A frame attempt ended -/

@[simp] theorem State.endAttempt_time (s : State) (l : Link) (d : Disposition) :
    (s.endAttempt l d).time = s.time := by cases l <;> rfl
@[simp] theorem State.endAttempt_store (s : State) (l : Link) (d : Disposition) :
    (s.endAttempt l d).store = s.store := by cases l <;> rfl
@[simp] theorem State.endAttempt_arbiter (s : State) (l : Link) (d : Disposition) :
    (s.endAttempt l d).arbiter = s.arbiter := by cases l <;> rfl
@[simp] theorem State.endAttempt_symbols (s : State) (l : Link) (d : Disposition) :
    (s.endAttempt l d).symbols = s.symbols := by cases l <;> rfl
@[simp] theorem State.endAttempt_table (s : State) (l : Link) (d : Disposition) :
    (s.endAttempt l d).table = s.table := by cases l <;> rfl
@[simp] theorem State.endAttempt_keying (s : State) (l : Link) (d : Disposition) :
    (s.endAttempt l d).keying = s.keying := by cases l <;> rfl
@[simp] theorem State.endAttempt_pacer (s : State) (l : Link) (d : Disposition) :
    (s.endAttempt l d).pacer = s.pacer := by cases l <;> rfl
@[simp] theorem State.endAttempt_engine (s : State) (l : Link) (d : Disposition) :
    (s.endAttempt l d).engine = s.engine := by cases l <;> rfl
@[simp] theorem State.endAttempt_restartCalled (s : State) (l : Link) (d : Disposition) :
    (s.endAttempt l d).restartCalled = s.restartCalled := by cases l <;> rfl
@[simp] theorem State.endAttempt_history (s : State) (l : Link) (d : Disposition) :
    (s.endAttempt l d).history = s.history := by cases l <;> rfl
@[simp] theorem State.endAttempt_latches (s : State) (l : Link) (d : Disposition) :
    (s.endAttempt l d).latches = s.latches := by cases l <;> rfl
@[simp] theorem State.endAttempt_free (s : State) (l : Link) (d : Disposition) :
    (s.endAttempt l d).free = s.free := by cases l <;> rfl
@[simp] theorem State.endAttempt_pending (s : State) (l : Link) (d : Disposition) :
    (s.endAttempt l d).pending = s.pending := by cases l <;> rfl

/-! ### A reply placed or dropped -/

@[simp] theorem State.placeReply_time (s : State) (l : Link) (body : List Byte) :
    (s.placeReply l body).time = s.time := by
  simp only [State.placeReply]; split
  · cases l <;> rfl
  · rfl
@[simp] theorem State.placeReply_store (s : State) (l : Link) (body : List Byte) :
    (s.placeReply l body).store = s.store := by
  simp only [State.placeReply]; split
  · cases l <;> rfl
  · rfl
@[simp] theorem State.placeReply_arbiter (s : State) (l : Link) (body : List Byte) :
    (s.placeReply l body).arbiter = s.arbiter := by
  simp only [State.placeReply]; split
  · cases l <;> rfl
  · rfl
@[simp] theorem State.placeReply_symbols (s : State) (l : Link) (body : List Byte) :
    (s.placeReply l body).symbols = s.symbols := by
  simp only [State.placeReply]; split
  · cases l <;> rfl
  · rfl
@[simp] theorem State.placeReply_table (s : State) (l : Link) (body : List Byte) :
    (s.placeReply l body).table = s.table := by
  simp only [State.placeReply]; split
  · cases l <;> rfl
  · rfl
@[simp] theorem State.placeReply_keying (s : State) (l : Link) (body : List Byte) :
    (s.placeReply l body).keying = s.keying := by
  simp only [State.placeReply]; split
  · cases l <;> rfl
  · rfl
@[simp] theorem State.placeReply_pacer (s : State) (l : Link) (body : List Byte) :
    (s.placeReply l body).pacer = s.pacer := by
  simp only [State.placeReply]; split
  · cases l <;> rfl
  · rfl
@[simp] theorem State.placeReply_engine (s : State) (l : Link) (body : List Byte) :
    (s.placeReply l body).engine = s.engine := by
  simp only [State.placeReply]; split
  · cases l <;> rfl
  · rfl
@[simp] theorem State.placeReply_restartCalled (s : State) (l : Link) (body : List Byte) :
    (s.placeReply l body).restartCalled = s.restartCalled := by
  simp only [State.placeReply]; split
  · cases l <;> rfl
  · rfl
@[simp] theorem State.placeReply_history (s : State) (l : Link) (body : List Byte) :
    (s.placeReply l body).history = s.history := by
  simp only [State.placeReply]; split
  · cases l <;> rfl
  · rfl
@[simp] theorem State.placeReply_latches (s : State) (l : Link) (body : List Byte) :
    (s.placeReply l body).latches = s.latches := by
  simp only [State.placeReply]; split
  · cases l <;> rfl
  · rfl
@[simp] theorem State.placeReply_free (s : State) (l : Link) (body : List Byte) :
    (s.placeReply l body).free = s.free := by
  simp only [State.placeReply]; split
  · cases l <;> rfl
  · rfl
@[simp] theorem State.placeReply_pending (s : State) (l : Link) (body : List Byte) :
    (s.placeReply l body).pending = s.pending := by
  simp only [State.placeReply]; split
  · cases l <;> rfl
  · rfl

/-! ### Events put at the front of the queue -/

@[simp] theorem State.follow_time (s : State) (cs : List Instr) : (s.follow cs).time = s.time := rfl
@[simp] theorem State.follow_store (s : State) (cs : List Instr) : (s.follow cs).store = s.store := rfl
@[simp] theorem State.follow_linkA (s : State) (cs : List Instr) : (s.follow cs).linkA = s.linkA := rfl
@[simp] theorem State.follow_linkB (s : State) (cs : List Instr) : (s.follow cs).linkB = s.linkB := rfl
@[simp] theorem State.follow_arbiter (s : State) (cs : List Instr) : (s.follow cs).arbiter = s.arbiter := rfl
@[simp] theorem State.follow_symbols (s : State) (cs : List Instr) : (s.follow cs).symbols = s.symbols := rfl
@[simp] theorem State.follow_table (s : State) (cs : List Instr) : (s.follow cs).table = s.table := rfl
@[simp] theorem State.follow_keying (s : State) (cs : List Instr) : (s.follow cs).keying = s.keying := rfl
@[simp] theorem State.follow_pacer (s : State) (cs : List Instr) : (s.follow cs).pacer = s.pacer := rfl
@[simp] theorem State.follow_engine (s : State) (cs : List Instr) : (s.follow cs).engine = s.engine := rfl
@[simp] theorem State.follow_restartCalled (s : State) (cs : List Instr) : (s.follow cs).restartCalled = s.restartCalled := rfl
@[simp] theorem State.follow_history (s : State) (cs : List Instr) : (s.follow cs).history = s.history := rfl
@[simp] theorem State.follow_counters (s : State) (cs : List Instr) : (s.follow cs).counters = s.counters := rfl
@[simp] theorem State.follow_latches (s : State) (cs : List Instr) : (s.follow cs).latches = s.latches := rfl
@[simp] theorem State.follow_free (s : State) (cs : List Instr) : (s.follow cs).free = s.free := rfl
@[simp] theorem State.follow_pending (s : State) (cs : List Instr) : (s.follow cs).pending = cs ++ s.pending := rfl
@[simp] theorem State.follow_nil (s : State) : s.follow [] = s := rfl

end Sys2Proof.Machine
end

