-- ==== Sys2Proof/Laws/Ops.lean ====
section
/-! SUPPORT. What the shared operations can do, said once: the records and links after each, and one case lemma for each
operation that decides. -/

namespace Sys2Proof.Machine

set_option Elab.async false

/-! ### Records -/

theorem State.record_setRecord (s : State) (i j : Slot) (r : Record) :
    (s.setRecord i r).record j = if j = i then some r else s.record j := by
  simp only [State.record, State.setRecord, Vector.get, Fin.cast, Vector.getElem_toArray, Vector.getElem_set]
  simp only [Fin.ext_iff, eq_comm (a := i.val)]

theorem State.record_freeSlot (s : State) (i j : Slot) :
    (s.freeSlot i).record j = if j = i then none else s.record j := by
  simp only [State.record, State.freeSlot, Vector.get, Fin.cast, Vector.getElem_toArray, Vector.getElem_set]
  simp only [Fin.ext_iff, eq_comm (a := i.val)]

@[simp] theorem State.record_setRecord_same (s : State) (i : Slot) (r : Record) :
    (s.setRecord i r).record i = some r := by simp [State.record_setRecord]

@[simp] theorem State.record_freeSlot_same (s : State) (i : Slot) : (s.freeSlot i).record i = none := by
  simp [State.record_freeSlot]

theorem State.record_setRecord_other (s : State) (i j : Slot) (r : Record) (h : j ≠ i) :
    (s.setRecord i r).record j = s.record j := by simp [State.record_setRecord, h]

theorem State.record_freeSlot_other (s : State) (i j : Slot) (h : j ≠ i) :
    (s.freeSlot i).record j = s.record j := by simp [State.record_freeSlot, h]

theorem State.record_clearDependents (s : State) (i : Slot) :
    s.clearDependents.record i = (s.record i).map (fun r => { r with dependent := false }) := by
  simp [State.record, State.clearDependents, Vector.get]
  rfl

/-- The records of a state whose table is another's are the other's. -/
theorem State.record_of_table (s t : State) (i : Slot) (h : s.table = t.table) : s.record i = t.record i := by
  simp only [State.record, h]

@[simp] theorem State.bump_record (s : State) (c : Counter) (i : Slot) : (s.bump c).record i = s.record i := rfl
@[simp] theorem State.latch_record (s : State) (a : Alarm) (i : Slot) : (s.latch a).record i = s.record i := rfl
@[simp] theorem State.put_record (s : State) (w : Word16) (i : Slot) : (s.put w).record i = s.record i := rfl
@[simp] theorem State.releaseBlocks_record (s : State) (r : Record) (i : Slot) :
    (s.releaseBlocks r).record i = s.record i := rfl
@[simp] theorem State.takeCarry_record (s : State) (i : Slot) : s.takeCarry.record i = s.record i := rfl
@[simp] theorem State.clockTick_record (s : State) (i : Slot) : s.clockTick.record i = s.record i := rfl
@[simp] theorem State.enterIdle_record (s : State) (i : Slot) : s.enterIdle.record i = s.record i := rfl
@[simp] theorem State.tailFromHold_record (s : State) (i : Slot) : s.tailFromHold.record i = s.record i := rfl
@[simp] theorem State.enterTail_record (s : State) (row : ModeRow) (strobe : Bool) (i : Slot) :
    (s.enterTail row strobe).record i = s.record i := by cases strobe <;> rfl
@[simp] theorem State.setLink_record (s : State) (l : Link) (c : CarriageLink) (i : Slot) :
    (s.setLink l c).record i = s.record i := by cases l <;> rfl
@[simp] theorem State.setClockState_record (s : State) (c : ClockState) (i : Slot) :
    (s.setClockState c).record i = s.record i := by simp [State.record]

/-- A record becomes SHADOW: its slot afterwards, and every other slot (R114). -/
theorem State.record_becomeShadow (s : State) (i j : Slot) (o : BatchOutcome) :
    (s.becomeShadow i o).record j =
      if j = i then (s.record i).map (fun r =>
        if r.state = .shadow then r else { r.unchained with state := .shadow, shadow := some o })
      else s.record j := by
  unfold State.becomeShadow
  split
  · split <;> simp_all
  · split
    · split <;> simp_all
    · split <;> simp_all [State.record_setRecord]

/-- What becoming SHADOW does to the whole state (R107, R114). -/
theorem State.becomeShadow_cases (s : State) (i : Slot) (o : BatchOutcome) :
    ((s.record i = none ∨ ∃ r, s.record i = some r ∧ r.state = .shadow) ∧ s.becomeShadow i o = s)
      ∨ ∃ r, s.record i = some r ∧ r.state ≠ .shadow
        ∧ s.becomeShadow i o =
          (s.releaseBlocks r).setRecord i { r.unchained with state := .shadow, shadow := some o } := by
  unfold State.becomeShadow
  cases h : s.record i with
  | none => simp
  | some r => by_cases hr : r.state = .shadow <;> simp [hr]

/-! ### Links -/

@[simp] theorem State.link_setLink_same (s : State) (l : Link) (c : CarriageLink) : (s.setLink l c).link l = c := by
  cases l <;> rfl

theorem State.link_setLink_other (s : State) (l k : Link) (c : CarriageLink) (h : k ≠ l) :
    (s.setLink l c).link k = s.link k := by cases l <;> cases k <;> simp_all [State.setLink, State.link]

@[simp] theorem State.setLink_setLink (s : State) (l : Link) (c d : CarriageLink) :
    (s.setLink l c).setLink l d = s.setLink l d := by cases l <;> rfl

@[simp] theorem State.setLink_link (s : State) (l : Link) : s.setLink l (s.link l) = s := by cases l <;> rfl

@[simp] theorem State.bump_link (s : State) (c : Counter) (l : Link) : (s.bump c).link l = s.link l := by
  cases l <;> rfl

theorem State.setLink_bump (s : State) (l : Link) (c : CarriageLink) (k : Counter) :
    (s.bump k).setLink l c = (s.setLink l c).bump k := by cases l <;> rfl

/-- A reply is placed behind those queued, the transmitter begun when it may be, or it is lost and counted (R70, R71). -/
theorem State.placeReply_cases (s : State) (l : Link) (body : List Byte) :
    ((s.link l).replies.length < 4 ∧ s.placeReply l body =
        s.setLink l ({ s.link l with replies := (s.link l).replies ++ [frameOf body] }).beginReply)
      ∨ (4 ≤ (s.link l).replies.length ∧ s.placeReply l body = s.bump (.link l .replyLost)) := by
  simp only [State.placeReply]
  by_cases h : (s.link l).replies.length < 4
  · exact Or.inl ⟨h, if_pos h⟩
  · exact Or.inr ⟨by omega, if_neg h⟩

/-- An answer is a reply on the request's link, or nothing (R157). -/
theorem State.answer_cases (s : State) (h : Handed) (q : Request) (res : Result) (data : List Byte) :
    (h.addressing = .unicast
        ∧ s.answer h q res data = s.placeReply h.link (replyBody h q.code res.code 0 true data))
      ∨ (h.addressing ≠ .unicast ∧ s.answer h q res data = s) := by
  cases hh : h.addressing <;> simp [State.answer, hh]

/-! ### Counters and latches -/

theorem countUp_toNat (c : Word32) : (countUp c).toNat = if c.toNat = 4294967295 then c.toNat else c.toNat + 1 := by
  unfold countUp
  by_cases h : c = 0xFFFFFFFF
  · subst h; rfl
  · have h2 : c.toNat ≠ 4294967295 := fun e => h (BitVec.eq_of_toNat_eq e)
    have := c.isLt
    simp only [h, h2, if_false, BitVec.toNat_add]
    simp; omega

/-- The counters after a rise: the one counted up, saturating, and the others as they were (R171). -/
theorem State.counter_bump (s : State) (c d : Counter) :
    (s.bump c).counter d = if c.row = d.row then countUp (s.counter c) else s.counter d := by
  simp only [State.counter, State.bump, Vector.get, Fin.cast, Vector.getElem_toArray, Vector.getElem_set]
  simp only [Fin.ext_iff]

/-- No counter falls at a rise of one of them. -/
theorem State.counter_le_bump (s : State) (c d : Counter) : (s.counter d).toNat ≤ ((s.bump c).counter d).toNat := by
  rw [State.counter_bump]
  split
  · rename_i h
    have e : s.counter c = s.counter d := by simp only [State.counter, h]
    rw [e, countUp_toNat]
    split <;> omega
  · exact le_rfl

/-! ### Allocation -/

/-- An allocation is all or nothing: the chain off the head of the free list, the rest of the list left (R99). -/
theorem SymbolStore.allocate_cases (t : SymbolStore) (p : Nat) (bytes : List Byte) :
    (t.free.length < blocksFor p ∧ t.allocate p bytes = none)
      ∨ (blocksFor p ≤ t.free.length ∧ t.allocate p bytes = some (t.free.take (blocksFor p),
          ({ t with free := t.free.drop (blocksFor p) }).writeChain (t.free.take (blocksFor p))
            (storedBytes p bytes))) := by
  simp only [SymbolStore.allocate]
  by_cases h : t.free.length < blocksFor p
  · exact Or.inl ⟨h, if_pos h⟩
  · exact Or.inr ⟨by omega, if_neg h⟩

/-- Writing a chain leaves the free list. -/
theorem SymbolStore.writeChain_free (bs : List Block) (t : SymbolStore) (bytes : List Byte) :
    (t.writeChain bs bytes).free = t.free := by
  induction bs generalizing t bytes with
  | nil => rfl
  | cons b rest ih => exact (ih _ _).trans rfl

/-! ### Instants -/

theorem Instant.reached_iff (x now : Instant) : x.reached now = true ↔ x.diff now ≤ 0 := by simp [Instant.reached]
theorem Instant.passed_iff (x now : Instant) : x.passed now = true ↔ x.diff now < 0 := by simp [Instant.passed]
theorem Instant.earlier_iff (a b : Instant) : a.earlier b = true ↔ a.diff b < 0 := by simp [Instant.earlier]
theorem dueAtStep_iff (p q x : Instant) : dueAtStep p q x = true ↔ 0 < q.diff p ∧ 0 < x.diff p ∧ x.diff q ≤ 0 := by
  simp [dueAtStep, and_assoc]

/-! ### What a change of the settings brings -/

/-- A link goes DOWN with its alarm latched, or nothing changes (R67). -/
theorem State.silenceCheck_cases (s : State) (l : Link) :
    ((s.link l).up = true ∧ s.store.settings.silence * 10000000 ≤ (s.link l).silence
        ∧ s.silenceCheck l = (s.setLink l { s.link l with up := false, silence := 0 }).latch (linkAlarm l))
      ∨ (((s.link l).up = false ∨ (s.link l).silence < s.store.settings.silence * 10000000) ∧ s.silenceCheck l = s) := by
  by_cases h : (s.link l).up = true ∧ s.store.settings.silence * Config.periodsPerSecond ≤ (s.link l).silence
  · exact Or.inl ⟨h.1, h.2, if_pos h⟩
  · refine Or.inr ⟨?_, if_neg h⟩
    cases hu : (s.link l).up
    · exact Or.inl rfl
    · exact Or.inr (Nat.lt_of_not_le fun x => h ⟨hu, x⟩)

/-- A rate change waits behind the replies queued, or is made at once (R73). -/
theorem State.changeRate_cases (s : State) (h : Handed) (l : Link) (code : Nat) :
    ((h.addressing = .unicast ∧ h.link = l ∧ (s.link l).replies ≠ []) ∧ s.changeRate h l code =
        s.setLink l { s.link l with rateChange := some { code := code, after := (s.link l).replies.length } })
      ∨ (¬ (h.addressing = .unicast ∧ h.link = l ∧ (s.link l).replies ≠ [])
        ∧ s.changeRate h l code = s.applyRate l code) := by
  by_cases c : h.addressing = .unicast ∧ h.link = l ∧ (s.link l).replies ≠ []
  · exact Or.inl ⟨c, if_pos c⟩
  · exact Or.inr ⟨c, if_neg c⟩

/-! ### The events that follow -/

/-- A retirement is due of a SHADOW record alone (R115). -/
theorem State.isShadow_of_retirementDue {s : State} {i : Slot} (h : s.retirementDue i = true) : s.isShadow i = true := by
  unfold State.retirementDue at h
  unfold State.isShadow
  cases hr : s.record i with
  | none => simp [hr] at h
  | some r => simp only [hr, Bool.and_eq_true] at h; exact h.1

/-- A record as it stood before is not made SHADOW (R114). -/
theorem State.retiresNext_of_same (before s : State) (i : Slot) (h : s.record i = before.record i) :
    State.retiresNext before s i = false := by
  have e : before.isShadow i = s.isShadow i := by simp only [State.isShadow, h]
  cases hd : s.retirementDue i
  · simp [State.retiresNext, hd]
  · simp [State.retiresNext, e, State.isShadow_of_retirementDue hd]

/-- An event that makes no record SHADOW after its retirement instant leaves no retirement (R114). -/
theorem State.retireNext_without (before s : State) (h : ∀ i, State.retiresNext before s i = false) :
    State.retireNext before s = s := by
  have e : allSlots.filter (State.retiresNext before s) = [] := List.filter_eq_nil_iff.mpr fun i _ => by simp [h i]
  simp [State.retireNext, e]

/-- An event that leaves every record as it stood leaves no retirement (R114). -/
theorem State.retireNext_of_same (before s : State) (h : ∀ i, s.record i = before.record i) :
    State.retireNext before s = s :=
  State.retireNext_without _ _ fun i => State.retiresNext_of_same _ _ i (h i)

/-- What an event leaves for the one that follows goes to the front of the queue, and nothing else changes (log 42). -/
theorem State.retireNext_follows (before s : State) :
    State.retireNext before s = s.follow ((allSlots.filter (State.retiresNext before s)).map Instr.retirement) := rfl

/-- A record as it stood before leaves no event for the one that follows (R130). -/
theorem State.newlyDue_of_same (before s : State) (i : Slot) (h : s.record i = before.record i) :
    State.newlyDue before s i = [] := by
  have e := State.retiresNext_of_same before s i h
  unfold State.newlyDue
  cases hr : s.record i with
  | none => rfl
  | some r => simp [← h, hr, e]

/-- What follows a creation goes to the front of the queue, and nothing else changes (log 42). -/
theorem State.followCreation_follows (before s : State) : ∃ cs, State.followCreation before s = s.follow cs := ⟨_, rfl⟩

/-- The new head READY record goes to the front of the queue when its key-up is due, and otherwise nothing changes
(R139). -/
theorem State.considerNext_cases (s : State) :
    (∃ b, s.headReady = some b ∧ s.keyUpDue b = true ∧ s.considerNext = s.follow [.keyUp b])
      ∨ ((∀ b, s.headReady = some b → s.keyUpDue b = false) ∧ s.considerNext = s) := by
  unfold State.considerNext
  cases hh : s.headReady with
  | none => exact Or.inr ⟨by simp, rfl⟩
  | some b =>
    cases hk : s.keyUpDue b
    · exact Or.inr ⟨by rintro _ ⟨⟩; exact hk, by simp [hk]⟩
    · exact Or.inl ⟨b, rfl, hk, by simp [hk]⟩

/-- A decision that leaves its record other than SHADOW leaves nothing to consider (R139). -/
theorem State.decideThenNext_kept (s : State) (i : Slot) (h : (s.decideKeyUp i).isShadow i = false) :
    s.decideThenNext i = s.decideKeyUp i := by
  simp [State.decideThenNext, h]

/-! ### What an event owes the sequencer -/

/-- HOLD ends in HOLD alone (R146). -/
theorem State.holdEnds_outside_hold (before s : State) (h : s.keying.state ≠ .hold) : State.holdEnds before s = false := by
  unfold State.holdEnds
  split
  · contradiction
  · rfl

/-- An event that did not enter TAIL owes no decision (R147). -/
theorem State.afterTailEntry_without (before s : State) (h : before.keying.state = .tail ∨ s.keying.state ≠ .tail) :
    State.afterTailEntry before s = s := by
  unfold State.afterTailEntry
  rw [if_neg]
  rintro ⟨a, b⟩
  cases h <;> contradiction

/-- With no key-up reached, no decision is due (R139). -/
theorem State.decideIfDue_without (s : State) (h : ∀ i, s.keyUpReached i = false) : s.decideIfDue = s := by
  unfold State.decideIfDue
  split
  · rfl
  · simp [State.keyUpDue, h]

/-- The launch queue and its head are read off the table alone (R108). -/
theorem State.headReady_of_table (before s : State) (h : s.table = before.table) : s.headReady = before.headReady := by
  have ready : s.isReady = before.isReady := by funext i; simp only [State.isReady, State.record, h]
  simp only [State.headReady, State.launchQueue, State.record, h, ready]

/-- An event that leaves the sequencer as it stood and ends no HOLD owes it nothing (R146, R147). -/
theorem State.settleKeying_without (before s : State) (hk : s.keying = before.keying)
    (stays : State.holdEnds before s = false) : State.settleKeying before s = s := by
  simp only [State.settleKeying, stays, Bool.false_eq_true, if_false]
  exact State.afterTailEntry_without before s (by
    rw [hk]; by_cases e : before.keying.state = .tail <;> simp [e])

/-- An event that leaves the table and the sequencer as they stood owes the sequencer nothing: it ends no HOLD and enters no
TAIL (R80, R146, R147). -/
theorem State.settleKeying_of_same (before s : State) (ht : s.table = before.table) (hk : s.keying = before.keying) :
    State.settleKeying before s = s := by
  have head := State.headReady_of_table before s ht
  have ready : s.isReady = before.isReady := by funext i; simp only [State.isReady, State.record, ht]
  have record : s.record = before.record := by funext i; simp only [State.record, ht]
  refine State.settleKeying_without before s hk ?_
  unfold State.holdEnds
  split
  · rename_i i e _ _ _ _
    rw [head, ready, record]
    cases before.isReady i <;> cases before.record i <;> simp
  · rfl

/-- A taking that leaves the table, the sequencer and the pacer as they stood leaves nothing for the event that follows
(R80, R130, R141). -/
theorem State.followCreation_of_same (before s : State) (ht : s.table = before.table) (hk : s.keying = before.keying)
    (hp : s.pacer = before.pacer) : State.followCreation before s = s := by
  have wanted : s.blockWanted = before.blockWanted := by
    simp only [State.blockWanted, State.record, ht, hk, hp]
  have none_due : ∀ i, State.newlyDue before s i = [] := by
    intro i
    have same : s.record i = before.record i := by simp only [State.record, ht]
    unfold State.newlyDue
    rw [same]
    cases h : before.record i with
    | none => rfl
    | some r => simp [State.retiresNext_of_same before s i same]
  unfold State.followCreation
  rw [wanted]
  have empty : allSlots.flatMap (State.newlyDue before s) = [] := List.flatMap_eq_nil_iff.mpr fun i _ => none_due i
  rw [empty]
  cases before.blockWanted.isSome <;> rfl

end Sys2Proof.Machine
end

