-- ==== Sys2Proof/WellFormed.lean ====
section
/-! DEFINITION. Which commands a sender may put in the queue. `exec` gives every command a meaning, well formed or not. -/

namespace Sys2Proof

/-- The thirteen request codes (R155, R177). -/
def understoodCodes : List Byte :=
  [0x01, 0x02, 0x03, 0x04, 0x05, 0x06, 0x07, 0x08, 0x09, 0x0A, 0x0B, 0x0C, 0x0D]

/-- The destination address agrees with the addressing it matched (R79): 0xFFFF is broadcast and nothing else is; the
destination 0x0000 matches nothing. -/
def Handed.wellFormed (h : Handed) : Bool :=
  h.dest != 0 && (decide (h.addressing = .broadcast) == (h.dest == 0xFFFF))

/-- A request fits a frame body of at most 288 bytes, five of them before the parameters (R62, R177). -/
def requestWellFormed (h : Handed) (params : List Byte) : Bool :=
  h.wellFormed && decide (params.length + 5 ≤ Config.maxBody)

/-- The check a command passes before it is sent. -/
def Instr.wellFormed : Instr → Bool
  | .status h ps => requestWellFormed h ps
  | .read h ps => requestWellFormed h ps
  | .write h ps => requestWellFormed h ps
  | .digest h ps => requestWellFormed h ps
  | .switch h ps => requestWellFormed h ps
  | .cancelSwitch h ps => requestWellFormed h ps
  | .store h ps => requestWellFormed h ps
  | .recall h ps => requestWellFormed h ps
  | .abort h ps => requestWellFormed h ps
  | .ackAlarms h ps => requestWellFormed h ps
  | .clearCounters h ps => requestWellFormed h ps
  | .setLinkRate h ps => requestWellFormed h ps
  | .restart h ps => requestWellFormed h ps
  | .notUnderstood h code ps => requestWellFormed h ps && !understoodCodes.contains code
  | .coldStart => true
  | .refLost => true
  | .refBack => true
  | .ppsEdge => true
  | .ppsMissing => true
  | .todLeadByte _ => true
  | .todMessage _ _ _ _ => true
  | .secondBoundary => true
  | .switchEvent => true
  | .leadByte _ => true
  | .frameByte _ _ => true
  | .lengthEnd _ _ => true
  | .frameEnd _ _ => true
  | .badChar _ => true
  | .gap _ => true
  | .silenceTimeout _ => true
  | .admissionFree => true
  | .deadline _ => true
  | .keptEndWhileLate _ => true
  | .keyUp _ => true
  | .missedLaunch _ => true
  | .retirement _ => true
  | .launch => true
  | .pacerCarry => true
  | .blockRead => true
  | .tailEnd => true
  | .txrdyFall => true
  | .storeComplete _ => true
  | .readFramePlaced => true
  | .readStall => true
  | .replySent _ => true
  | .warmRestart => true

end Sys2Proof
end

