-- ==== Sys2Proof/Laws/PerInstr.lean ====
section
/-! SUPPORT. A law of the commands as syntax, one lemma for each: a well-formed request fits the frame that carries it. -/

namespace Sys2Proof.Laws

set_option Elab.async false

/-- The request a command carries: what admission hands on, the request code and the parameters; none for an event. -/
def requestCarried : Instr → Option (Handed × Byte × List Byte)
  | .coldStart => none
  | .refLost => none
  | .refBack => none
  | .ppsEdge => none
  | .ppsMissing => none
  | .todLeadByte _ => none
  | .todMessage _ _ _ _ => none
  | .secondBoundary => none
  | .switchEvent => none
  | .leadByte _ => none
  | .frameByte _ _ => none
  | .lengthEnd _ _ => none
  | .frameEnd _ _ => none
  | .badChar _ => none
  | .gap _ => none
  | .silenceTimeout _ => none
  | .admissionFree => none
  | .deadline _ => none
  | .keptEndWhileLate _ => none
  | .keyUp _ => none
  | .missedLaunch _ => none
  | .retirement _ => none
  | .launch => none
  | .pacerCarry => none
  | .blockRead => none
  | .tailEnd => none
  | .txrdyFall => none
  | .status h ps => some (h, 0x01, ps)
  | .read h ps => some (h, 0x02, ps)
  | .write h ps => some (h, 0x03, ps)
  | .digest h ps => some (h, 0x04, ps)
  | .switch h ps => some (h, 0x05, ps)
  | .cancelSwitch h ps => some (h, 0x06, ps)
  | .store h ps => some (h, 0x07, ps)
  | .recall h ps => some (h, 0x08, ps)
  | .abort h ps => some (h, 0x09, ps)
  | .ackAlarms h ps => some (h, 0x0A, ps)
  | .clearCounters h ps => some (h, 0x0B, ps)
  | .setLinkRate h ps => some (h, 0x0C, ps)
  | .restart h ps => some (h, 0x0D, ps)
  | .notUnderstood h code ps => some (h, code, ps)
  | .storeComplete _ => none
  | .readFramePlaced => none
  | .readStall => none
  | .replySent _ => none
  | .warmRestart => none

/-- The body of the MANAGE frame that carries a request (R177). -/
def requestBody (h : Handed) (code : Byte) (params : List Byte) : List Byte :=
  [0x6C] ++ Machine.bytesOf 2 h.dest.toNat ++ [h.tag, code] ++ params

/-- A well-formed command that carries a request names an address that its addressing can have matched, and its frame body
holds that address at offset 1 and is no longer than the deframer accepts (R62, R79, R177). -/
def WellFormedFits.Statement (i : Instr) : Prop :=
  i.wellFormed = true → ∀ h code params, requestCarried i = some (h, code, params) →
    h.dest ≠ 0 ∧ (h.addressing = .broadcast ↔ h.dest = 0xFFFF)
      ∧ (requestBody h code params).length ≤ 288 ∧ Machine.natAt (requestBody h code params) 1 2 = h.dest.toNat

/-- What the check of a request says of the frame that carries it. -/
theorem requestBody_of_wellFormed (h : Handed) (code : Byte) (params : List Byte)
    (w : requestWellFormed h params = true) :
    h.dest ≠ 0 ∧ (h.addressing = .broadcast ↔ h.dest = 0xFFFF)
      ∧ (requestBody h code params).length ≤ 288
      ∧ Machine.natAt (requestBody h code params) 1 2 = h.dest.toNat := by
  simp only [requestWellFormed, Handed.wellFormed, Bool.and_eq_true, bne_iff_ne, beq_iff_eq, decide_eq_true_eq] at w
  obtain ⟨⟨nonzero, agrees⟩, short⟩ := w
  refine ⟨nonzero, ?_, ?_, ?_⟩
  · by_cases hb : h.addressing = .broadcast <;> by_cases hd : h.dest = 0xFFFF <;> simp_all
  · simp only [requestBody, Machine.bytesOf, List.length_append, List.length_cons, List.length_nil]
    simp only [Config.maxBody] at short
    omega
  · have := h.dest.isLt
    simp [requestBody, Machine.bytesOf, Machine.natAt, Machine.fieldAt, Machine.unsignedOf]
    omega

theorem WellFormedFits.coldStart : WellFormedFits.Statement .coldStart := by
  intro _ h code params e
  simp [requestCarried] at e

theorem WellFormedFits.refLost : WellFormedFits.Statement .refLost := by
  intro _ h code params e
  simp [requestCarried] at e

theorem WellFormedFits.refBack : WellFormedFits.Statement .refBack := by
  intro _ h code params e
  simp [requestCarried] at e

theorem WellFormedFits.ppsEdge : WellFormedFits.Statement .ppsEdge := by
  intro _ h code params e
  simp [requestCarried] at e

theorem WellFormedFits.ppsMissing : WellFormedFits.Statement .ppsMissing := by
  intro _ h code params e
  simp [requestCarried] at e

theorem WellFormedFits.todLeadByte (stopError : Bool) : WellFormedFits.Statement (.todLeadByte stopError) := by
  intro _ h code params e
  simp [requestCarried] at e

theorem WellFormedFits.todMessage (second : Word32) (quality check : Byte) (faults : BitVec 6) :
    WellFormedFits.Statement (.todMessage second quality check faults) := by
  intro _ h code params e
  simp [requestCarried] at e

theorem WellFormedFits.secondBoundary : WellFormedFits.Statement .secondBoundary := by
  intro _ h code params e
  simp [requestCarried] at e

theorem WellFormedFits.switchEvent : WellFormedFits.Statement .switchEvent := by
  intro _ h code params e
  simp [requestCarried] at e

theorem WellFormedFits.leadByte (l : Link) : WellFormedFits.Statement (.leadByte l) := by
  intro _ h code params e
  simp [requestCarried] at e

theorem WellFormedFits.frameByte (l : Link) (b : Byte) : WellFormedFits.Statement (.frameByte l b) := by
  intro _ h code params e
  simp [requestCarried] at e

theorem WellFormedFits.lengthEnd (l : Link) (b : Byte) : WellFormedFits.Statement (.lengthEnd l b) := by
  intro _ h code params e
  simp [requestCarried] at e

theorem WellFormedFits.frameEnd (l : Link) (b : Byte) : WellFormedFits.Statement (.frameEnd l b) := by
  intro _ h code params e
  simp [requestCarried] at e

theorem WellFormedFits.badChar (l : Link) : WellFormedFits.Statement (.badChar l) := by
  intro _ h code params e
  simp [requestCarried] at e

theorem WellFormedFits.gap (l : Link) : WellFormedFits.Statement (.gap l) := by
  intro _ h code params e
  simp [requestCarried] at e

theorem WellFormedFits.silenceTimeout (l : Link) : WellFormedFits.Statement (.silenceTimeout l) := by
  intro _ h code params e
  simp [requestCarried] at e

theorem WellFormedFits.admissionFree : WellFormedFits.Statement .admissionFree := by
  intro _ h code params e
  simp [requestCarried] at e

theorem WellFormedFits.deadline (slot : Slot) : WellFormedFits.Statement (.deadline slot) := by
  intro _ h code params e
  simp [requestCarried] at e

theorem WellFormedFits.keptEndWhileLate (slot : Slot) : WellFormedFits.Statement (.keptEndWhileLate slot) := by
  intro _ h code params e
  simp [requestCarried] at e

theorem WellFormedFits.keyUp (slot : Slot) : WellFormedFits.Statement (.keyUp slot) := by
  intro _ h code params e
  simp [requestCarried] at e

theorem WellFormedFits.missedLaunch (slot : Slot) : WellFormedFits.Statement (.missedLaunch slot) := by
  intro _ h code params e
  simp [requestCarried] at e

theorem WellFormedFits.retirement (slot : Slot) : WellFormedFits.Statement (.retirement slot) := by
  intro _ h code params e
  simp [requestCarried] at e

theorem WellFormedFits.launch : WellFormedFits.Statement .launch := by
  intro _ h code params e
  simp [requestCarried] at e

theorem WellFormedFits.pacerCarry : WellFormedFits.Statement .pacerCarry := by
  intro _ h code params e
  simp [requestCarried] at e

theorem WellFormedFits.blockRead : WellFormedFits.Statement .blockRead := by
  intro _ h code params e
  simp [requestCarried] at e

theorem WellFormedFits.tailEnd : WellFormedFits.Statement .tailEnd := by
  intro _ h code params e
  simp [requestCarried] at e

theorem WellFormedFits.txrdyFall : WellFormedFits.Statement .txrdyFall := by
  intro _ h code params e
  simp [requestCarried] at e

theorem WellFormedFits.status (h : Handed) (params : List Byte) : WellFormedFits.Statement (.status h params) := by
  intro w h' code' params' e
  simp only [requestCarried, Option.some.injEq, Prod.mk.injEq] at e
  obtain ⟨rfl, rfl, rfl⟩ := e
  exact requestBody_of_wellFormed _ _ _ w

theorem WellFormedFits.read (h : Handed) (params : List Byte) : WellFormedFits.Statement (.read h params) := by
  intro w h' code' params' e
  simp only [requestCarried, Option.some.injEq, Prod.mk.injEq] at e
  obtain ⟨rfl, rfl, rfl⟩ := e
  exact requestBody_of_wellFormed _ _ _ w

theorem WellFormedFits.write (h : Handed) (params : List Byte) : WellFormedFits.Statement (.write h params) := by
  intro w h' code' params' e
  simp only [requestCarried, Option.some.injEq, Prod.mk.injEq] at e
  obtain ⟨rfl, rfl, rfl⟩ := e
  exact requestBody_of_wellFormed _ _ _ w

theorem WellFormedFits.digest (h : Handed) (params : List Byte) : WellFormedFits.Statement (.digest h params) := by
  intro w h' code' params' e
  simp only [requestCarried, Option.some.injEq, Prod.mk.injEq] at e
  obtain ⟨rfl, rfl, rfl⟩ := e
  exact requestBody_of_wellFormed _ _ _ w

theorem WellFormedFits.switch (h : Handed) (params : List Byte) : WellFormedFits.Statement (.switch h params) := by
  intro w h' code' params' e
  simp only [requestCarried, Option.some.injEq, Prod.mk.injEq] at e
  obtain ⟨rfl, rfl, rfl⟩ := e
  exact requestBody_of_wellFormed _ _ _ w

theorem WellFormedFits.cancelSwitch (h : Handed) (params : List Byte) :
    WellFormedFits.Statement (.cancelSwitch h params) := by
  intro w h' code' params' e
  simp only [requestCarried, Option.some.injEq, Prod.mk.injEq] at e
  obtain ⟨rfl, rfl, rfl⟩ := e
  exact requestBody_of_wellFormed _ _ _ w

theorem WellFormedFits.store (h : Handed) (params : List Byte) : WellFormedFits.Statement (.store h params) := by
  intro w h' code' params' e
  simp only [requestCarried, Option.some.injEq, Prod.mk.injEq] at e
  obtain ⟨rfl, rfl, rfl⟩ := e
  exact requestBody_of_wellFormed _ _ _ w

theorem WellFormedFits.recall (h : Handed) (params : List Byte) : WellFormedFits.Statement (.recall h params) := by
  intro w h' code' params' e
  simp only [requestCarried, Option.some.injEq, Prod.mk.injEq] at e
  obtain ⟨rfl, rfl, rfl⟩ := e
  exact requestBody_of_wellFormed _ _ _ w

theorem WellFormedFits.abort (h : Handed) (params : List Byte) : WellFormedFits.Statement (.abort h params) := by
  intro w h' code' params' e
  simp only [requestCarried, Option.some.injEq, Prod.mk.injEq] at e
  obtain ⟨rfl, rfl, rfl⟩ := e
  exact requestBody_of_wellFormed _ _ _ w

theorem WellFormedFits.ackAlarms (h : Handed) (params : List Byte) :
    WellFormedFits.Statement (.ackAlarms h params) := by
  intro w h' code' params' e
  simp only [requestCarried, Option.some.injEq, Prod.mk.injEq] at e
  obtain ⟨rfl, rfl, rfl⟩ := e
  exact requestBody_of_wellFormed _ _ _ w

theorem WellFormedFits.clearCounters (h : Handed) (params : List Byte) :
    WellFormedFits.Statement (.clearCounters h params) := by
  intro w h' code' params' e
  simp only [requestCarried, Option.some.injEq, Prod.mk.injEq] at e
  obtain ⟨rfl, rfl, rfl⟩ := e
  exact requestBody_of_wellFormed _ _ _ w

theorem WellFormedFits.setLinkRate (h : Handed) (params : List Byte) :
    WellFormedFits.Statement (.setLinkRate h params) := by
  intro w h' code' params' e
  simp only [requestCarried, Option.some.injEq, Prod.mk.injEq] at e
  obtain ⟨rfl, rfl, rfl⟩ := e
  exact requestBody_of_wellFormed _ _ _ w

theorem WellFormedFits.restart (h : Handed) (params : List Byte) : WellFormedFits.Statement (.restart h params) := by
  intro w h' code' params' e
  simp only [requestCarried, Option.some.injEq, Prod.mk.injEq] at e
  obtain ⟨rfl, rfl, rfl⟩ := e
  exact requestBody_of_wellFormed _ _ _ w

theorem WellFormedFits.notUnderstood (h : Handed) (code : Byte) (params : List Byte) :
    WellFormedFits.Statement (.notUnderstood h code params) := by
  intro w h' code' params' e
  simp only [requestCarried, Option.some.injEq, Prod.mk.injEq] at e
  obtain ⟨rfl, rfl, rfl⟩ := e
  simp only [Instr.wellFormed, Bool.and_eq_true] at w
  exact requestBody_of_wellFormed _ _ _ w.1

theorem WellFormedFits.storeComplete (verified : Bool) : WellFormedFits.Statement (.storeComplete verified) := by
  intro _ h code params e
  simp [requestCarried] at e

theorem WellFormedFits.readFramePlaced : WellFormedFits.Statement .readFramePlaced := by
  intro _ h code params e
  simp [requestCarried] at e

theorem WellFormedFits.readStall : WellFormedFits.Statement .readStall := by
  intro _ h code params e
  simp [requestCarried] at e

theorem WellFormedFits.replySent (l : Link) : WellFormedFits.Statement (.replySent l) := by
  intro _ h code params e
  simp [requestCarried] at e

theorem WellFormedFits.warmRestart : WellFormedFits.Statement .warmRestart := by
  intro _ h code params e
  simp [requestCarried] at e

end Sys2Proof.Laws
end

