-- ==== Sys2Proof/Tests/Slice0.lean ====
section
/-! SUPPORT. The model's own tests: the check of a command refuses what it must, the worked figures of the manual come out,
single steps do what their rule says, and each statement's hypotheses are met by a state written here. -/

namespace Sys2Proof.Tests

open Sys2Proof.Machine

set_option Elab.async false

/-! ### The check of a command refuses an ill-formed one, a theorem for each thing it looks at -/

def handed : Handed := { link := .a, addressing := .unicast, dest := 0x0011, tag := 5 }

theorem test_wf_accepts_a_request : (Instr.status handed []).wellFormed = true := by decide
theorem test_wf_refuses_no_destination : (Instr.status { handed with dest := 0 } []).wellFormed = false := by decide
theorem test_wf_refuses_a_broadcast_elsewhere :
    (Instr.abort { handed with addressing := .broadcast } [0, 0, 1]).wellFormed = false := by decide
theorem test_wf_refuses_a_unicast_to_all : (Instr.restart { handed with dest := 0xFFFF } []).wellFormed = false := by
  decide
theorem test_wf_refuses_a_long_body : (Instr.write handed (List.replicate 284 0)).wellFormed = false := by
  decide +kernel
theorem test_wf_accepts_the_longest_body : (Instr.write handed (List.replicate 283 0)).wellFormed = true := by
  decide +kernel
theorem test_wf_refuses_an_understood_code : (Instr.notUnderstood handed 0x0D []).wellFormed = false := by decide
theorem test_wf_accepts_another_code : (Instr.notUnderstood handed 0x0E []).wellFormed = true := by decide

/-! ### The manual's worked figures -/

/-- R178: the check value of the nine digits. -/
theorem test_crc16_of_digits : crc16 [0x31, 0x32, 0x33, 0x34, 0x35, 0x36, 0x37, 0x38, 0x39] = 0x29B1 := by decide +kernel
/-- R48: the increments at the ends of the permitted rates and at 3200. -/
theorem test_inc : (incOf 100, incOf 3200, incOf 9600) = (42950, 1374390, 4123169) := by decide +kernel
/-- R49 and the worked case: boundaries at 3200 symbols per second. -/
theorem test_ticks : [640, 945, 946, 1000].map (ticksOf 1374390) = [2000000, 2953125, 2956249, 3124999] := by
  decide +kernel
/-- R51: the three worked distances. -/
theorem test_first_boundary : [2000000, 1996876, 1996875].map (firstBoundary 1374390) = [640, 640, 639] := by
  decide +kernel
/-- R52: the three worked distances. -/
theorem test_last_boundary : [1998000, 2000000, -1].map (lastBoundary 1374390) = [639, 640, 0] := by decide +kernel
/-- R57: the preloads of j = 640 and j = 946. -/
theorem test_preload : (preloadOf 1374390 640, preloadOf 1374390 946) = (930560, 1094) := by decide +kernel
/-- R44: the two worked differences. -/
theorem test_difference : (⟨86400, 875⟩ : Instant).diff ⟨86399, 9850875⟩ = 150000
    ∧ (⟨0, 10000⟩ : Instant).diff ⟨4294967294, 0⟩ = 20010000 := by decide +kernel
/-- R45: the three worked sums. -/
theorem test_sum : (⟨86400, 875⟩ : Instant).add (-150000) = ⟨86399, 9850875⟩
    ∧ (⟨4294967295, 9990000⟩ : Instant).add 20000 = ⟨0, 10000⟩
    ∧ (⟨86400, 875⟩ : Instant).add 1638387525 = ⟨86563, 8388400⟩ := by decide +kernel
/-- R5: the three worked edges. -/
theorem test_edges : (edgeOffset ⟨99, 9999999⟩, edgeSecond ⟨99, 9999999⟩) = (-1, 100)
    ∧ (edgeOffset ⟨99, 4999999⟩, edgeSecond ⟨99, 4999999⟩) = (4999999, 99)
    ∧ (edgeOffset ⟨4294967295, 6000000⟩, edgeSecond ⟨4294967295, 6000000⟩) = (-4000000, 0) := by decide +kernel
/-- R31: the worked clamps of a mode row and of a settings record. -/
theorem test_clamps :
    (clampMode { factoryMode with offset := 1200000, keyLead := 2500000, joinMin := 0 }).offset = 1000000
    ∧ (clampMode { factoryMode with keyLead := 2500000 }).keyLead = 2000000
    ∧ (clampMode { factoryMode with joinMin := 0 }).joinMin = 1
    ∧ (clampZone { factoryZone with offset := -2000000 }).offset = -1000000
    ∧ (keptSettings { defaultSettings with holdoverRate := 0, acqCount := 12 }).holdoverRate = 1
    ∧ (keptSettings { defaultSettings with holdoverRate := 0, acqCount := 12 }).acqCount = 10 := by decide +kernel

/-! ### Small states -/

/-- A mode in use: 3200 symbols per second, JOIN. -/
def row : ModeRow :=
  { rate := 3200, offset := 0, keyLead := 150000, tail := 20000, rest := 0x0800,
    levels := #v[0x1000, 0x2000, 0x3000, 0x4000], levelSet := .four, late := .join, joinMin := 64, tolerance := 300 }

/-- A batch of 300 symbols with its launch at second 100, in blocks 0 and 1. -/
def batch (st : RecordState) : Record :=
  { number := 7, zone := 0, mode := 0, cls := 1, tag := ⟨100, 0⟩, total := 300, partCount := 1, profileUsed := 0,
    row := row, dependent := false, launch := ⟨100, 0⟩, inc := 1374390, nominalEnd := ⟨100, 937500⟩, j := 0, k := 300,
    keptKeyUp := ⟨99, 9850000⟩, deadline := ⟨99, 9800000⟩, late := false, joined := false, parts := 1,
    chains := (Vector.replicate 16 []).set 0 [0, 1], sourceA := true, sourceB := false, state := st, shadow := none,
    stop := none, sent := 0 }

/-- The same batch as SHADOW. -/
def shadowed (o : BatchOutcome) : Record :=
  { batch .shadow with chains := Vector.replicate 16 [], shadow := some o }

/-- The state right after reset at an instant, LOCKED. -/
def atInstant (x : Instant) : State :=
  { State.reset with time := { State.reset.time with clock := x, state := .locked } }

/-- The store with blocks 0 and 1 taken, each of zeros beside a check code. -/
def checked (w : Word16) : SymbolStore :=
  { memory := []
    checks := ((Vector.replicate 1024 (0 : Word16)).set 0 w).set 1 w
    free := fullFreeList.drop 2 }

/-- The store with blocks 0 and 1 taken and sound. -/
def twoBlocks : SymbolStore := checked (crc16 (List.replicate 64 0))

/-- One record, in slot 0, at an instant; TXRDY true. -/
def holding (r : Record) (x : Instant) : State :=
  { (atInstant x).setRecord 0 r with symbols := twoBlocks, keying := idleSequencer true }

/-- The same with the sequencer in a state, the record in slot 0 current. -/
def keyed (q : SeqState) (r : Record) (x : Instant) : State :=
  { holding r x with
    keying := { idleSequencer true with state := q, current := some 0, restRow := some row, mod := row.rest } }

/-- HOLD, waiting for the record in slot 0. -/
def bridging (r : Record) (x : Instant) : State :=
  { holding r x with
    keying := { idleSequencer true with
      state := .hold, bridged := some 0, restRow := some row, endInstant := some ⟨99, 9800000⟩, mod := row.rest } }

/-- What a command leaves, seen through one reading of it. -/
def seen {α : Type} (c : Instr) (s : State) (f : State → α) : Option α :=
  match exec c s with
  | .next t => some (f t)
  | .fault _ => none
  | .refused _ => none

/-- The next state of a step, none when it stops. -/
def stepped (s : State) : Option State :=
  match step s with
  | .next t => some t
  | .fault _ => none
  | .refused _ => none

/-! ### Single steps, by the rule each names -/

/-- The join rule's worked case (R111 with the example of 03): j becomes 64, and the key-up and deadline move. -/
theorem test_join_rule :
    ((({ atInstant ⟨86400, 0⟩ with
      table := State.reset.table }.setRecord 0 { batch .assembling with
        launch := ⟨86400, 875⟩, total := 1000, k := 1000, late := true }).completeRecord 0).record 0).map
      (fun (r : Record) => (r.j, r.keptLaunch, r.keptKeyUp, r.deadline, r.joined, r.state)) =
    some (64, ⟨86400, 200875⟩, ⟨86400, 50875⟩, ⟨86400, 875⟩, true, .ready) := by decide +kernel
theorem test_check_beside_a_block (w : Word16) : (checked w).checks.get 0 = w := by rfl
theorem test_zeros_in_a_block : twoBlocks.blockBytes 0 = List.replicate 64 0 := by decide +kernel
/-- A block of zeros is read sound. -/
theorem test_block_is_sound (s : State) (h : s.symbols = twoBlocks) :
    s.readBlock (batch .ready) 0 = some { index := 0, bytes := List.replicate 64 0 } := by
  have place : (batch .ready).blockOf 0 = some 0 := by decide +kernel
  have check : twoBlocks.checks.get 0 = crc16 (List.replicate 64 0) := test_check_beside_a_block _
  simp only [State.readBlock, place, h, test_zeros_in_a_block, check, if_true]
/-- R140: a decision with the gate open, TXRDY true and the block sound makes the record KEYING and touches no other. -/
theorem test_decision_keys (s : State) (there : s.record 0 = some (batch .ready))
    (gate : s.gateOpen (batch .ready).row = true) (ready : s.keying.txrdy = true) (idle : s.keying.state = .idle)
    (store : s.symbols = twoBlocks) (ahead : (batch .ready).keptLaunch.reached s.time.clock = false) :
    ∀ j, (s.decideKeyUp 0).record j = (s.setRecord 0 (batch .keying)).record j := by
  have first : (batch .ready).j / Config.blockSymbols = 0 := rfl
  intro j
  simp only [State.decideKeyUp, there, gate, ready, first, test_block_is_sound s store, ahead, State.becomeKeying, idle,
    State.put]
  rfl
/-- R138, R140: a decision keys the transmitter at the rest level. -/
theorem test_key_up : ∃ t, exec (.keyUp 0) (holding (batch .ready) ⟨99, 9850000⟩) = .next t
    ∧ t.keying.state = .lead ∧ t.keying.mod = 0x0800 ∧ t.keying.modstb = true ∧ t.record 0 = some (batch .keying) := by
  have general : ∀ s : State, s.keyUpDue 0 = true → s.record 0 = some (batch .ready) →
      s.gateOpen (batch .ready).row = true → s.keying.txrdy = true → s.keying.state = .idle → s.symbols = twoBlocks →
      (batch .ready).keptLaunch.reached s.time.clock = false →
      ∃ t, exec (.keyUp 0) s = .next t ∧ t.keying.state = .lead ∧ t.keying.mod = 0x0800 ∧ t.keying.modstb = true
        ∧ t.record 0 = some (batch .keying) := by
    intro s due there gate ready idle store ahead
    have first : (batch .ready).j / Config.blockSymbols = 0 := rfl
    have there' : ∀ r, (s.setRecord 0 r).record 0 = some r := fun r => State.record_setRecord_same s 0 r
    have other : ∀ j r, j ≠ 0 → (s.setRecord 0 r).record j = s.record j := fun j r e =>
      State.record_setRecord_other s 0 j r e
    have keyedNow := test_decision_keys s there gate ready idle store ahead
    have still : (s.decideKeyUp 0).isShadow 0 = false := by
      simp only [State.isShadow, keyedNow, there']; rfl
    have none_retires : ∀ j, State.retiresNext s (s.decideKeyUp 0) j = false := by
      intro j
      by_cases e : j = 0
      · subst e
        simp only [State.retiresNext, State.retirementDue, keyedNow, there']; rfl
      · exact State.retiresNext_of_same _ _ j ((keyedNow j).trans (other j _ e))
    refine ⟨s.decideKeyUp 0, ?_, ?_⟩
    · simp only [exec, execKeyUp, due, if_true, State.decideThenNext_kept s 0 still,
        State.retireNext_without _ _ none_retires]
    · simp only [State.decideKeyUp, there, gate, ready, first, test_block_is_sound s store, ahead, State.becomeKeying, idle,
        State.put]
      exact ⟨rfl, rfl, rfl, there' _⟩
  exact general _ (by decide +kernel) rfl rfl rfl rfl rfl (by decide +kernel)
/-- R16, R140: in UNSET the gate is closed, and the record is MUTED with the transmitter untouched. -/
theorem test_key_up_muted : seen (.keyUp 0)
      { holding (batch .ready) ⟨99, 9850000⟩ with time := { State.reset.time with clock := ⟨99, 9850000⟩ } }
      (fun t => (t.keying.state, t.latches, (t.record 0).map Record.shadow)) =
    some (.idle, 0x1F, some (some .muted)) := by decide +kernel
/-- R141: the launch puts out symbol 0 at its level. -/
theorem test_launch : seen .launch (keyed .lead (batch .keying) ⟨100, 0⟩)
      (fun t => (t.keying.state, t.keying.mod, t.pacer.acc, (t.record 0).map Record.sent)) =
    some (.symbols, 0x1000, 0, some 1) := by decide +kernel
/-- R116, R117, R144: the carry after the last symbol retires the record as LAUNCHED, and TAIL begins. -/
theorem test_last_carry : seen .pacerCarry
      { keyed .symbols (batch .onAir) ⟨100, 937500⟩ with
        pacer := { acc := 4294968750, symbol := 299, block := none, next := none } }
      (fun t => (t.keying.state, t.keying.tailEnd, t.symbols.free.length, t.history.map HistoryEntry.outcome)) =
    some (.tail, some ⟨100, 957500⟩, 1024, [.launched]) := by decide +kernel
/-- R146: an ABORT of the bridged record ends HOLD, and TAIL begins with the row of the finished batch. -/
theorem test_abort_ends_hold : seen (.abort handed [0, 0, 7]) (bridging (batch .ready) ⟨99, 9800000⟩)
      (fun t => (t.keying.state, t.keying.tailEnd, t.keying.bridged, (t.record 0).map Record.shadow)) =
    some (.tail, some ⟨99, 9820000⟩, none, some (some .aborted)) := by decide +kernel
/-- R146: a record with an earlier key-up that becomes READY ends HOLD and is decided at once when its key-up is due. -/
theorem test_displaced_ends_hold :
    let s := (bridging (batch .ready) ⟨99, 9800000⟩).setRecord 1
      { batch .assembling with number := 9, launch := ⟨99, 9900000⟩, keptKeyUp := ⟨99, 9800001⟩, late := false }
    let t := State.settleKeying s (s.completeRecord 1)
    (s.headReady, t.headReady, t.keying.state, t.keying.bridged) = (some 0, some 1, .tail, none) := by decide +kernel
/-- R36, R162, R177: a unicast request's reply is one frame, its echo and result in place. -/
theorem test_reply_frame : seen (.ackAlarms handed [0x01]) State.reset
      (fun t => (t.latches, (t.linkA.replies.headD []).take 11)) =
    some (0x0E, [0xA3, 0x00, 0x08, 0x6D, 0x00, 0x11, 0x05, 0x0A, 0x00, 0x00, 0x01]) := by decide +kernel
/-- R15: a second boundary in HOLDOVER grows U by the default rate. -/
theorem test_second_boundary : seen .secondBoundary
      { State.reset with time := { State.reset.time with
        clock := ⟨4294967295, 9999999⟩, state := .holdover, u := 1000 } }
      (fun t => (t.time.clock, t.time.u)) = some (⟨0, 0⟩, 1050) := by decide +kernel
/-- R3, R177: a message of second 0x01020304 with quality 1 and its sum stands for the coming edge. -/
theorem test_tod_message : seen (.todMessage 0x01020304 1 0x0B 0)
      { State.reset with time := { State.reset.time with tod := some { bytes := [], faulty := false } } }
      (fun t => (t.time.coming, t.counter .todFailures)) = some (some { second := 0x01020304, fix := true }, 0) := by
  decide +kernel

/-- R1: the 100 ms timing begins at 0 with the first edge, runs on over a gap of 20 LO periods, and starts again at the edge
after a gap of 21. -/
theorem test_reference_timing :
    (coldTime.monitorRef true true).refTiming = some 0
    ∧ ({ coldTime with refTiming := some 5, refQuiet := 19 }.monitorRef true true).refTiming = some 6
    ∧ ({ coldTime with refTiming := some 5, refQuiet := 20 }.monitorRef true true).refTiming = some 0
    ∧ ({ coldTime with refTiming := some 5, refQuiet := 20 }.monitorRef true false).refTiming = none := by decide +kernel
/-- R101, R121, R139: a step with TXRDY false brings two READY records and a deadline under DROP due, and all three release
their blocks in queue order. -/
theorem test_step_releases_in_queue_order :
    let at3 := fun (r : Record) (n : Word16) (k : Fin 10000000) (b : Block) =>
      { r with number := n, keptKeyUp := ⟨99, k⟩, deadline := ⟨99, k⟩, chains := (Vector.replicate 16 []).set 0 [b] }
    let s := (({ atInstant ⟨99, 9900000⟩ with symbols := { State.reset.symbols with free := [] } }.setRecord 5
      (at3 (batch .ready) 1 9850000 10)).setRecord 2 (at3 (batch .ready) 2 9850001 11)).setRecord 0
      { at3 (batch .assembling) 3 9850002 12 with row := { row with late := .drop } }
    let t := s.stepPass ⟨99, 0⟩ ⟨99, 9900000⟩
    (t.symbols.free, t.records.map Record.shadow) =
      ([10, 11, 12], [some .droppedIncomplete, some .notReady, some .notReady]) := by decide +kernel
/-- R114, R115: with the guard 0, a late record whose kept end is its nominal end becomes SHADOW at its retirement instant, and
its retirement stands before a command that waits. -/
theorem test_retires_next :
    (let s := holding { batch .assembling with late := true } ⟨100, 937500⟩
     (stepped { s with
        store := { s.store with settings := { s.store.settings with guard := 0 } }
        pending := [.keptEndWhileLate 0, .abort handed [0, 0, 7]] }).map (·.pending)) =
      some [.retirement 0, .abort handed [0, 0, 7]]
    ∧ seen (.keptEndWhileLate 0) (holding { batch .assembling with late := true } ⟨100, 937500⟩) (·.pending) = some [] := by
  decide +kernel
/-- R130, R147: an event that dropped the KEYING record of a mode with a tail of 0 and formed another's key-up again passes
through IDLE and leaves the key-up to the next event; a key-up that stood is decided at once. -/
theorem test_formed_again_waits :
    (let before := (keyed .lead { batch .keying with row := { row with tail := 0 } } ⟨99, 9900000⟩).setRecord 1
       { batch .ready with number := 9, keptKeyUp := ⟨99, 9850000⟩ }
     let s := before.setRecord 1 { batch .ready with number := 9, j := 1, keptKeyUp := ⟨99, 9853125⟩ }
     let t := State.followCreation before (State.settleKeying before (s.dropRecord 0 .droppedConflict))
     (t.keying.state, t.pending) = (.idle, [.keyUp 1]))
    ∧ (let before := { (keyed .lead { batch .keying with row := { row with tail := 0 } } ⟨99, 9900000⟩).setRecord 1
         { batch .ready with number := 9 } with keying := { (keyed .lead (batch .keying) ⟨0, 0⟩).keying with txrdy := false } }
       let t := State.followCreation before (State.settleKeying before (before.dropRecord 0 .droppedConflict))
       (t.keying.state, (t.record 1).map (·.shadow), t.pending) = (.idle, some (some .notReady), [])) := by decide +kernel
/-- R139: after a decision that refuses its record the next one stands at the front of the queue. -/
theorem test_refused_then_next :
    (let s := (holding (batch .ready) ⟨99, 9850001⟩).setRecord 1 { batch .ready with number := 9, keptKeyUp := ⟨99, 9850001⟩ }
     seen (.keyUp 0) { s with keying := idleSequencer false, pending := [.store handed []] }
       (fun t => ((t.record 0).map (·.shadow), t.pending))) =
    some (some (some .notReady), [.keyUp 1, .store handed []]) := by decide +kernel
/-- R108: a record with the same key-up as another stands behind it by its number, and one with an earlier key-up ahead. -/
theorem test_launch_queue :
    (let s := ((holding (batch .ready) ⟨99, 0⟩).setRecord 1 { batch .assembling with number := 9 }).setRecord 2
      { batch .ready with number := 5, keptKeyUp := ⟨99, 9849999⟩ }
     (s.launchQueue, s.headReady, (s.freeSlot 2).launchQueue)) = ([2, 0, 1], some 2, [0, 1])
    ∧ precedes 7 9 = true
    ∧ (⟨99, 9849999⟩ : Instant).diff ⟨99, 9850000⟩ < 0 ∧ 0 < (⟨99, 9850000⟩ : Instant).diff ⟨99, 9849999⟩ := by
  decide +kernel
/-- R93: the ends of the range of numbers that a number precedes, and the pair exactly 32 768 apart. -/
theorem test_precedes : [(5, 6), (5, 5), (5, 32772), (5, 32773), (32773, 5), (65535, 0), (0, 65535)].map
    (fun (x : Word16 × Word16) => precedes x.1 x.2) = [true, false, true, true, false, true, false] := by decide +kernel
/-- R21, R22, R24: a code that no table lists is held as its byte (log 13). -/
theorem test_unlisted_codes : zoneModeOf 3 = .unlisted 3 ∧ latePolicyOf 2 = .unlisted 2 ∧ preferredOf 2 = .unlisted 2
    ∧ preferredOf 1 = .link .b ∧ zoneModeOf 2 = .launch := by decide
/-- HOLD for the READY record of slot 2, with an ASSEMBLING one under DROP and another READY one beside it: one kept key-up for
all three, and numbers each of which precedes the next around the circle. -/
def circle : State :=
  let tied := fun (st : RecordState) (n : Word16) => { batch st with number := n, row := { row with late := .drop } }
  let s := bridging (batch .ready) ⟨99, 9800000⟩
  ((({ s with keying := { s.keying with bridged := some 2 } }.freeSlot 0).setRecord 1 (tied .assembling 21846)).setRecord 2
    (tied .ready 0)).setRecord 3 (tied .ready 43692)
/-- R146: a deadline that drops a record of the circle makes another record the head READY one, and HOLD ends in that event. -/
theorem test_deadline_ends_hold :
    circle.headReady = some 2 ∧ (circle.becomeShadow 1 .droppedIncomplete).headReady = some 3
    ∧ seen (.deadline 1) circle (fun t => (t.keying.state, t.keying.bridged)) = some (.tail, none) := by decide +kernel
/-- R80: a DUPLICATE changes its counter alone, in HOLD for a record that is not the head READY one too. -/
theorem test_duplicate_leaves_hold :
    (let s := { circle with keying := { circle.keying with bridged := some 3 } }
     let t := s.takePart .a ([0x61, 0, 0, 0, 1, 0, 0, 1] ++ bytesOf 4 100 ++ bytesOf 4 0 ++ bytesOf 2 300 ++ List.replicate 75 0)
     (decide (t.table = s.table ∧ t.keying = s.keying ∧ t.pending = s.pending), t.counter (.admission .duplicate))) =
    (true, 1) := by decide +kernel
/-- R103, R141: the block of a raised j is read before the launch. -/
theorem test_block_read_before_launch :
    (let s := keyed .lead { batch .keying with j := 256 } ⟨99, 9900000⟩
     s.blockWanted.isSome = true ∧ ({ batch .keying with j := 256 } : Record).blockOf 1 = some 1
      ∧ (s.pacer.block.map (·.index) ≠ some 1) ∧ ∀ j, s.keyUpReached j = false)
    ∧ (keyed .hold { batch .keying with chains := Vector.replicate 16 [] } ⟨99, 9900000⟩).blockWanted.isSome = true
    ∧ ({ batch .keying with chains := Vector.replicate 16 [] } : Record).blockOf 0 = none := by decide +kernel
/-- R41, R167: the warm restart is the next event after a RESTART, before a STORE that waits behind it. -/
theorem test_restart_before_the_queue :
    (stepped { State.reset with pending := [.restart handed [], .store handed []] }).map
      (fun t => (t.restartCalled, t.pending)) = some (true, [.warmRestart, .store handed []])
    ∧ seen .warmRestart { State.reset with engine := .storing { snapshot := [], handed := handed, elapsed := 0 } }
      (fun t => decide (t.engine = .free)) = some false := by decide +kernel
/-- R39: a stored symbol rate of 50 and a level set of 2 are recalled as they stand, and a WRITE of them is refused. -/
theorem test_recalled_as_it_stands :
    (modeOf ([0, 50] ++ List.replicate 22 0 ++ [2] ++ List.replicate 7 0)).rate = 50
    ∧ (modeOf (List.replicate 24 0 ++ [2] ++ List.replicate 7 0)).levelSet = .unlisted 2
    ∧ readMode ([0, 50] ++ List.replicate 30 0) = none ∧ readMode (List.replicate 24 0 ++ [2] ++ List.replicate 7 0) = none :=
  by decide +kernel

/-! ### Witnesses: a state and operands that meet the hypotheses of each statement, clause by clause -/

/-- One READY record in slot 0, a command waiting. -/
def waiting : State := { holding (batch .ready) ⟨99, 0⟩ with pending := [.txrdyFall] }

/-- The batch of slot 0 on the air, symbol m in progress, t ticks after its launch. -/
def sending (r : Record) (m t : Nat) : State :=
  { keyed .symbols r ((⟨100, 0⟩ : Instant).add t) with
    pacer := { acc := t * 1374390 - m * 4294967296, symbol := m, block := none, next := none } }

theorem test_witness_step (s : State) (c : Instr) : ∃ t, step { s with pending := c :: s.pending } = .next t := by
  cases c <;> exact ⟨_, rfl⟩
theorem test_witness_idle_step :
    { State.reset with restartCalled := true }.pending = []
      ∧ (holding (batch .ready) ⟨100, 1⟩).launchMissed 0 = true
      ∧ { State.reset with time := { State.reset.time with refPresent := true, refQuiet := 20 } }.dueEvents ≠ []
      ∧ State.reset.dueEvents = [] ∧ ∀ i, State.reset.launchMissed i = false := by decide +kernel
/-- Each cause of an event at the moment at which it comes due and not a moment before, but for those that a free value decides
(log 6). -/
theorem test_witness_due :
    let due := fun (c : Instr) (s s' : State) => decide (c ∈ s.dueEvents ∧ c ∉ s'.dueEvents)
    let timed := fun (t : TimeUnit) => { State.reset with time := t }
    let t0 := State.reset.time
    let linked := fun (c : CarriageLink) => { State.reset with linkB := c }
    let l0 := State.reset.linkB
    let pending := fun (x : Instant) => { atInstant x with
      store := { State.reset.store with pending := some { target := 1, second := 100 } } }
    let tailing := fun (x : Instant) => { atInstant x with
      keying := { idleSequencer true with state := .tail, restRow := some row, tailEnd := some ⟨100, 0⟩ } }
    let reading := fun (n stall : Nat) => { State.reset with
      linkA := { State.reset.linkA with replies := List.replicate n [1] }
      engine := .reading { handed := handed, table := 0x41, next := 0, stop := 50, frame := 0, stall := stall } }
    due .refLost (timed { t0 with refPresent := true, refQuiet := 20 }) (timed { t0 with refPresent := true, refQuiet := 19 })
    ∧ due .refBack (timed { t0 with refTiming := some 1000000 }) (timed { t0 with refTiming := some 999999 })
    ∧ due .ppsMissing (timed { t0 with pps := some 15000000 }) (timed { t0 with pps := some 14999999 })
    ∧ due (.gap .b) (linked { l0 with gapTimer := some ⟨100001, 100000⟩ }) (linked { l0 with gapTimer := some ⟨100000, 100000⟩ })
    ∧ due (.silenceTimeout .b) (linked { l0 with up := true, silence := 100000000 })
        (linked { l0 with up := true, silence := 99999999 })
    ∧ due .switchEvent (pending ⟨100, 0⟩) (pending ⟨99, 9999999⟩)
    ∧ due (.deadline 0) (holding (batch .assembling) ⟨99, 9800000⟩) (holding (batch .assembling) ⟨99, 9799999⟩)
    ∧ (let late := { batch .assembling with late := true }
       due (.keptEndWhileLate 0) (holding late ⟨100, 937500⟩) (holding late ⟨100, 937499⟩))
    ∧ due (.retirement 0) (holding (shadowed .muted) ⟨100, 939500⟩) (holding (shadowed .muted) ⟨100, 939499⟩)
    ∧ due (.keyUp 0) (holding (batch .ready) ⟨99, 9850000⟩) (holding (batch .ready) ⟨99, 9849999⟩)
    ∧ due (.keyUp 0) (bridging (batch .ready) ⟨99, 9850000⟩) (holding (batch .ready) ⟨100, 1⟩)
    ∧ due .launch (keyed .hold (batch .keying) ⟨100, 0⟩) (keyed .lead (batch .keying) ⟨99, 9999999⟩)
    ∧ due .pacerCarry (sending (batch .onAir) 0 3125) (sending (batch .onAir) 0 3124)
    ∧ due .blockRead (sending (batch .onAir) 255 796875) (sending (batch .onAir) 254 796875)
    ∧ due .blockRead (keyed .lead { batch .keying with j := 256 } ⟨99, 9900000⟩) (keyed .lead (batch .onAir) ⟨99, 9900000⟩)
    ∧ due .tailEnd (tailing ⟨100, 0⟩) (tailing ⟨99, 9999999⟩)
    ∧ due .readFramePlaced (reading 3 0) (reading 4 0) ∧ due .readStall (reading 4 20000000) (reading 4 19999999) := by
  decide +kernel
theorem test_witness_store_due (op : StoreOp) :
    { State.reset with engine := .storing { op with elapsed := 4000000 } }.storeDue = true := by
  simp [State.storeDue, Config.storePeriods]
theorem test_witness_memory : MemoryCanonical waiting ∧ (stepped waiting).isSome = true := by
  unfold MemoryCanonical; decide +kernel
theorem test_witness_numbers : NumbersDistinct waiting ∧ (stepped waiting).isSome = true := by
  unfold NumbersDistinct; decide +kernel
theorem test_only_slot_zero : ∀ i, i ≠ 0 → waiting.record i = none := by decide +kernel
theorem test_witness_blocks : BlocksConserved waiting ∧ (stepped waiting).isSome = true
    ∧ State.reset.symbols.free.length = 1024 := by
  refine ⟨⟨?_, by decide +kernel⟩, by decide +kernel, by decide +kernel⟩
  exact List.perm_append_comm.trans (List.Perm.of_eq (by decide +kernel))
theorem test_witness_allocation : (State.reset.symbols.allocate 1 [0xC0]).isSome = true
    ∧ (waiting.record 0).map Record.state = some .ready := by decide +kernel
theorem test_witness_uncertainty : UncertaintySound waiting ∧ (stepped waiting).isSome = true :=
  ⟨⟨fun _ => rfl, by decide, (fun h => nomatch h), (fun h => nomatch h)⟩, by decide +kernel⟩
theorem test_witness_sequencer :
    SequencerTied (keyed .lead (batch .keying) ⟨99, 9850000⟩) ∧ PortSound (keyed .lead (batch .keying) ⟨99, 9850000⟩)
      ∧ (stepped { keyed .lead (batch .keying) ⟨99, 9850000⟩ with pending := [.txrdyFall] }).isSome = true := by
  have lone : ∀ i, i ≠ 0 → (keyed .lead (batch .keying) ⟨99, 9850000⟩).record i = none := by decide +kernel
  refine ⟨⟨fun i r h _ => ?_, rfl, 0, rfl, batch .keying, rfl, rfl⟩,
    ⟨(fun h => nomatch h), fun _ => ⟨row, rfl, rfl⟩⟩, by decide +kernel⟩
  by_cases e : i = 0
  · rw [e]; rfl
  · rw [lone i e] at h; cases h
theorem test_witness_shadow_dependents_buffers :
    (ShadowSound (holding (shadowed .muted) ⟨99, 0⟩) ∧ DependentsNeedSwitch waiting ∧ BuffersBounded waiting)
      ∧ (stepped { holding (shadowed .muted) ⟨99, 0⟩ with pending := [.txrdyFall] }).isSome = true
      ∧ (stepped waiting).isSome = true :=
  ⟨⟨⟨by decide +kernel, by decide +kernel⟩, by unfold DependentsNeedSwitch; decide +kernel,
    ⟨by intro l; cases l <;> decide, by intro l; cases l <;> decide, by decide⟩⟩, by decide +kernel⟩
theorem test_witness_ranges : (waiting.record 0).map Record.number = some 7
    ∧ ((stepped waiting).bind (fun t => (t.record 0).map Record.number)) = some 7 := by decide +kernel
theorem test_witness_gate : ∃ t, step { holding (batch .ready) ⟨99, 9850000⟩ with pending := [.keyUp 0] } = .next t
    ∧ t.record 0 = some (batch .keying) ∧ (batch .keying).keyed ∧ ¬ (batch .ready).keyed := by
  obtain ⟨t, h, -, -, -, r⟩ := test_key_up
  exact ⟨t, h, r, Or.inl rfl, by simp [Record.keyed, batch]⟩
theorem test_witness_clock_and_counters : (stepped State.reset).isSome = true
    ∧ (stepped { State.reset with pending := [.coldStart] }).isSome = true
    ∧ (stepped { State.reset with pending := [.clearCounters handed []] }).isSome = true := by
  refine ⟨?_, by decide +kernel, by decide +kernel⟩
  rw [stepped, step, show State.reset.pending = [] from rfl]
  simp only [idleStep]
  rw [show State.reset.nextDue = none from by
    rw [State.nextDue, show State.reset.firstDue = [] from by decide +kernel,
      show State.reset.dueEvents = [] from by decide +kernel]
    rfl]
  rfl
theorem test_witness_frame : 1 ≤ [(0x41 : Byte)].length ∧ (List.replicate 288 (0x41 : Byte)).length ≤ 288
    ∧ (State.reset.link .b).deframer = .hunt ∧ (State.reset.link .b).buffers.length < 2
    ∧ { State.reset with arbiter := { State.reset.arbiter with occupied := true } }.arbiter.occupied = true := by
  decide +kernel
/-- The default settings, with the guard raised to the setup margin, are in range. -/
theorem test_witness_settings : ({ defaultSettings with guard := 50000 } : Settings).InRange :=
  ⟨by decide, by decide +kernel, by intro l; cases l <;> decide, by decide, by decide, by decide, by decide, by decide,
    by decide, by decide, by decide, by decide, by decide⟩
theorem test_witness_rows : row.InRange ∧ factoryMode.InRange ∧ factoryZone.InRange ∧ OffsetInRange (-1000000)
    ∧ OffsetInRange 1000000 :=
  ⟨⟨by decide, by unfold OffsetInRange; decide, by decide, by decide, by decide, by decide, rfl, rfl⟩,
    ⟨by decide, by unfold OffsetInRange; decide, by decide, by decide, by decide, by decide, rfl, rfl⟩,
    ⟨rfl, by unfold OffsetInRange; decide⟩, by unfold OffsetInRange; decide, by unfold OffsetInRange; decide⟩
theorem test_witness_profile : factoryProfile.InRange := by
  refine ⟨by unfold OffsetInRange; decide, fun i => ?_, fun i => ?_⟩
  · rw [show factoryProfile.modes.get i = factoryMode from by simp [factoryProfile, Vector.get]]
    exact test_witness_rows.2.1
  · rw [show factoryProfile.zones.get i = factoryZone from by simp [factoryProfile, Vector.get]]
    exact test_witness_rows.2.2.1
theorem test_witness_counts : -(2147483647 * 10000000) ≤ (2147483647 * 10000000 : Int)
    ∧ (1 : Nat) ≤ 4123169 ∧ 4123169 < 2 ^ 32 := by decide
theorem test_witness_launch : (keyed .lead (batch .keying) ⟨100, 0⟩).launchDue = some 0
    ∧ (keyed .hold (batch .keying) ⟨100, 0⟩).launchDue = some 0
    ∧ (keyed .lead (batch .keying) ⟨100, 0⟩).record 0 = some (batch .keying)
    ∧ ((batch .keying).launch.add (ticksOf (batch .keying).inc (batch .keying).j)).diff ⟨100, 0⟩ ≤ 0
    ∧ 0 < ((batch .keying).launch.add (ticksOf (batch .keying).inc (batch .keying).j)).diff ⟨99, 9999999⟩ := by
  decide +kernel

theorem test_witness_pacer : (sending (batch .onAir) 0 3124).pacer.acc + 0 * 2 ^ 32 = 3124 * 1374390
    ∧ (sending (batch .onAir) 0 3124).carryDue = false ∧ (sending (batch .onAir) 0 3125).carryDue = true
    ∧ (sending (batch .onAir) 0 3125).pacer.acc + 0 * 2 ^ 32 = 3125 * 1374390
    ∧ (sending (batch .onAir) 0 3125).record 0 = some (batch .onAir) ∧ (batch .onAir).stop = none
    ∧ 0 + 1 < (batch .onAir).k := by decide +kernel
theorem test_witness_pair : (batch .ready).number ≠ (8 : Word16)
    ∧ secondDiff (batch .ready).launch.sec 100 ≠ -2147483648 ∧ secondDiff 0 2147483648 = -2147483648 := by
  decide +kernel
theorem test_witness_cold_start : State.reset.engine = .free
    ∧ crc16 State.reset.store.nv.bytes ≠ State.reset.store.nv.check ∧ 3 < (4 : Byte).toNat
    ∧ (let op : StoreOp := { snapshot := [1], handed := handed, elapsed := 0 }
       ({ State.reset with engine := .storing op }).engine = .storing op) := by decide +kernel
theorem test_witness_warm_restart : ({ State.reset with restartCalled := true } : State).engine = .free
    ∧ State.reset.restartCalled = false
    ∧ Engine.storing { snapshot := [], handed := handed, elapsed := 0 } ≠ .free := by decide
/-- The bytes of a copy of the defaults and four factory profiles. -/
def defaultBytes : List Byte := snapshotBytes defaultSettings (Vector.replicate 4 factoryProfile) 0

/-- Any copy with a right CRC-16 and an active number of 0 to 3 is recalled, the one of the defaults among them. -/
theorem test_recalled (bytes : List Byte) (h : natAt bytes 2099 1 < 4) :
    (readCopy { bytes := bytes, check := crc16 bytes }).isSome = true := by simp [readCopy, h]
theorem test_witness_copy : (readCopy { bytes := defaultBytes, check := crc16 defaultBytes }).isSome = true :=
  test_recalled _ (by decide +kernel)
theorem test_witness_whole_copy : defaultBytes.length = 2100 ∧ (readSettings (settingsBytes defaultSettings)).isSome = true
    ∧ (readMode (modeBytes row)).isSome = true ∧ (readZone [1, 0x80, 0, 0]).map ZoneRow.offset = some (-8388608) := by
  decide +kernel
theorem test_witness_reference :
    (let t := { State.reset.time with refPresent := true, refQuiet := 20 }
     t.refPresent = true ∧ 20 ≤ t.refQuiet)
      ∧ (let t := { State.reset.time with pps := some 15000000 }
         t.pps = some 15000000)
      ∧ (let t := { State.reset.time with refTiming := some 1000000 }
         t.refPresent = false ∧ t.refTiming = some 1000000) := by decide +kernel
theorem test_witness_tod : State.reset.time.tod = none ∧ (0xD6 : Byte) ≠ 0xD7
    ∧ [(0xD7 : Byte), 1, 2, 3].length < 5
    ∧ seen (.todLeadByte false) State.reset (fun t => t.time.tod) = some (some { bytes := [], faulty := false }) := by
  decide +kernel
theorem test_witness_second : (atInstant ⟨5, 9999999⟩).time.clock.tick.val = 9999999
    ∧ (atInstant ⟨5, 9999998⟩).time.clock.tick.val ≠ 9999999
    ∧ (sending (batch .onAir) 0 9999999).time.clock.tick.val = 9999999
    ∧ (sending (batch .onAir) 0 9999999).keying.state = .symbols := by decide +kernel
theorem test_witness_edge : State.reset.time.state = .unset ∧ (atInstant ⟨0, 0⟩).time.state = .locked := by
  decide +kernel

/-- ACQUIRING with an estimate, the run at 2, and an edge at an instant whose TOD second is given. -/
def acquiring (x : Instant) (m : Word32) (q : SeqState) : State :=
  { State.reset with
    time := { State.reset.time with
      clock := x, state := .acquiring true, run := 2, refPresent := true, spacing := some 10000001,
      coming := some { second := m, fix := true }, previous := some (m - 1) }
    keying := { idleSequencer true with state := q } }

theorem test_witness_acquisition :
    (acquiring ⟨5, 0⟩ 5 .idle).time.edgeExtends = true ∧ (acquiring ⟨5, 1⟩ 5 .idle).time.edgeClean = true
      ∧ (acquiring ⟨5, 2⟩ 5 .idle).time.edgeClean = false ∧ (acquiring ⟨5, 0⟩ 6 .idle).time.edgeClean = false
      ∧ (acquiring ⟨5, 2⟩ 5 .tail).keying.state ≠ .idle
      ∧ (acquiring ⟨5, 2⟩ 5 .idle).store.settings.acqCount ≤ (acquiring ⟨5, 2⟩ 5 .idle).time.run + 1
      ∧ (acquiring ⟨5, 2⟩ 5 .idle).store.pending = none ∧ Instant.diff ⟨5, 0⟩ ⟨5, 0⟩ ≤ 0
      ∧ 0 < Instant.diff ⟨6, 0⟩ ⟨5, 0⟩ := by decide +kernel

/-- Two records due to retire, the one of slot 1 before the one of slot 0. -/
theorem test_witness_retiring :
    (let s := (holding (shadowed .muted) ⟨200, 0⟩).setRecord 1 { shadowed .aborted with
        number := 8, nominalEnd := ⟨100, 0⟩ }
     (∀ e, s.retirementDue e = true ↔ e = 1 ∨ e = 0) ∧ s.retiringSlots = [1, 0])
    ∧ dueAtStep ⟨99, 0⟩ ⟨99, 9800000⟩ (batch .assembling).deadline = true
    ∧ dueAtStep ⟨99, 0⟩ ⟨99, 9799999⟩ (batch .assembling).deadline = false
    ∧ dueAtStep ⟨99, 0⟩ ⟨100, 937500⟩ (batch .assembling).keptEnd = true
    ∧ dueAtStep ⟨99, 0⟩ ⟨99, 9850000⟩ (batch .ready).keptKeyUp = true
    ∧ (batch .ready).keptLaunch.diff ⟨100, 1⟩ < 0 ∧ Instant.diff ⟨99, 0⟩ ⟨99, 1⟩ ≤ 0 := by decide +kernel
/-- A record's turn in the pass: a key-up due, refused with TXRDY false, and one not due beside a KEYING record. -/
theorem test_witness_turn :
    (holding (batch .ready) ⟨99, 9850000⟩).keyUpDue 0 = true
    ∧ ({ holding (batch .ready) ⟨99, 9850000⟩ with keying := idleSequencer false }.decideKeyUp 0).isShadow 0 = true
    ∧ ((keyed .lead (batch .keying) ⟨99, 9850000⟩).setRecord 1 { batch .ready with number := 9 }).keyUpDue 1 = false := by
  decide +kernel

/-- A turn that keys its record. -/
theorem test_witness_turn_keyed : ((holding (batch .ready) ⟨99, 9850000⟩).decideKeyUp 0).record 0 = some (batch .keying) :=
  (test_decision_keys _ rfl rfl rfl rfl rfl (by decide +kernel) 0).trans (State.record_setRecord_same _ 0 _)

/-- A switch to profile 1 at second 100 is pending. -/
def switching (x : Instant) : State :=
  { atInstant x with store := { State.reset.store with pending := some { target := 1, second := 100 } } }

theorem test_witness_switch_event :
    (switching ⟨100, 0⟩).time.state ≠ .unset ∧ (switching ⟨100, 0⟩).time.state ≠ .acquiring false
      ∧ Instant.diff ⟨100, 0⟩ (switching ⟨100, 0⟩).time.clock ≤ 0
      ∧ 0 < Instant.diff ⟨100, 0⟩ (switching ⟨99, 9999999⟩).time.clock := by decide +kernel

/-- Link A with its deframer in a state. -/
def receiving (d : Deframer) : State :=
  { State.reset with linkA := { State.reset.linkA with deframer := d, gapTimer := some { elapsed := 0, limit := 100000 } } }

theorem test_witness_deframer : (State.reset.link .a).deframer = .hunt
    ∧ ((receiving (.length none)).link .a).deframer = .length none
    ∧ ((receiving (.length (some 1))).link .a).deframer = .length (some 1)
    ∧ ((receiving (.body 2 [])).link .a).deframer = .body 2 []
    ∧ ((receiving (.check [1] none)).link .a).deframer = .check [1] none
    ∧ (1 : Byte).toNat * 256 + (0x20 : Byte).toNat = 288 ∧ ((receiving .hunt).link .a).gapTimer ≠ none
    ∧ (State.reset.link .a).gapTimer = none := by decide +kernel
theorem test_witness_frame_end :
    (let s := receiving (.check [0x41] (some 0xB9))
     ((s.link .a).deframer = .check [0x41] (some 0xB9) ∧ crc16 [0x41] = (0xB9 : Byte) ++ (0x15 : Byte)
      ∧ crc16 [0x41] ≠ (0xB9 : Byte) ++ (0x16 : Byte) ∧ (s.link .a).buffers.length < 2 ∧ s.linkA.buffers = []
      ∧ s.linkB.buffers = [] ∧ s.arbiter.occupied = false)) := by decide +kernel
theorem test_witness_silence :
    (let c := { State.reset.linkA with up := true, silence := 100000000 }
     c.up = true ∧ State.reset.store.settings.silence * 10000000 ≤ c.silence) ∧ (State.reset.link .a).up = false := by
  decide +kernel
theorem test_witness_arbiter :
    (let s := { State.reset with linkA := { State.reset.linkA with buffers := [[1]] } }
     (s.link .a).buffers = [1] :: [] ∧ (s.link .b).buffers = [])
    ∧ (let s := { State.reset with
          linkA := { State.reset.linkA with buffers := [[1]] }
          linkB := { State.reset.linkB with buffers := [[2]] }
          arbiter := { occupied := true, runCount := 4, runLink := .a } }
       s.arbiter.runLink = s.store.settings.preferredLink ∧ s.store.settings.rotation ≤ s.arbiter.runCount
        ∧ (s.link .b).buffers ≠ []) ∧ 0 < State.reset.store.settings.rotation
    ∧ (State.reset.store.settings.siteAddress = 0xFFFE ∧ (∀ i, State.reset.store.settings.groups.get i ≠ 0xFFFE)
      ∧ 5 ≤ [(0x6C : Byte), 0xFF, 0xFE, 1, 1].length) := by decide +kernel
theorem test_witness_reply :
    (let c := { State.reset.linkA with replies := [[1], [2]], sending := some 5 }
     c.sending.isSome = true ∧ c.rateChange = none ∧ c.replies = [1] :: [[2]])
    ∧ (let c := { State.reset.linkA with replies := [[1]], sending := some 5, rateChange := some { code := 2, after := 1 } }
       c.sending.isSome = true ∧ c.rateChange = some { code := 2, after := 1 } ∧ c.deframer = .hunt)
    ∧ (let c := { (receiving (.length none)).linkA with
         replies := [[1]], sending := some 5, rateChange := some { code := 2, after := 1 } }
       c.sending.isSome = true ∧ c.rateChange = some { code := 2, after := 1 } ∧ c.deframer ≠ .hunt)
    ∧ 1 < ({ code := 2, after := 2 } : RateChange).after ∧ (State.reset.link .a).sending = none := by decide

/-- The body of a part of one symbol: batch 9, part 0 of 1, zone 0, mode 0, class 0, tag second 100, tick `t`. -/
def partBody (t : Nat) : List Byte :=
  [0x61, 0, 9, 0, 1, 0, 0, 0] ++ bytesOf 4 100 ++ bytesOf 4 t ++ [0, 1, 0xC0]

theorem test_witness_parts : structureOk (partBody 9999999) = true ∧ structureOk [0x61] = false
    ∧ 10000000 ≤ (rawPart (partBody 10000000)).tagTick ∧ (rawPart (partBody 9999999)).tagTick < 10000000
    ∧ structureOk (partBody 10000000) = true ∧ (atInstant ⟨99, 0⟩).slotOf 9 = none
    ∧ (holding { batch .assembling with number := 9 } ⟨99, 0⟩).slotOf 9 = some 0 := by decide +kernel
/-- A discard leaves the table, the sequencer and the pacer as they stood. -/
theorem test_witness_discard (s : State) :
    (s.discard .duplicate).table = s.table ∧ (s.discard .duplicate).keying = s.keying
      ∧ (s.discard .duplicate).pacer = s.pacer := ⟨rfl, rfl, rfl⟩

/-- Part 1 of the batch's two, were it of two parts. -/
def secondPart : RawPart :=
  { number := 7, index := 1, count := 1, zone := 0, mode := 0, cls := 1, tagSec := 100, tagTick := 0, total := 300,
    symbols := [] }

theorem test_witness_known : headerAgrees (batch .assembling) secondPart = true
    ∧ headerAgrees (batch .assembling) { secondPart with cls := 2 } = false
    ∧ (batch .assembling).parts.getLsbD secondPart.index = false
    ∧ (batch .assembling).parts.getLsbD { secondPart with index := 0 }.index = true
    ∧ ({ State.reset.symbols with free := [] }.allocate 1 [0]) = none
    ∧ (State.reset.symbols.allocate 1 [0]).isSome = true := by decide +kernel

/-- Zone 0 launches and mode 0 is in use in the active profile. -/
def inUse (z : ZoneMode) (m : ModeRow) : State :=
  { atInstant ⟨99, 0⟩ with
    store := { State.reset.store with
      profiles := State.reset.store.profiles.set 0 { factoryProfile with
        modes := factoryProfile.modes.set 0 m
        zones := factoryProfile.zones.set 0 { mode := z, offset := 0 } } } }

theorem test_witness_new :
    (let f := fun (s : State) => s.store.profiles.get (s.profileFor 100).1
     ((f (inUse .launch row)).zones.get 0).mode ≠ .off ∧ ((f (inUse .launch row)).modes.get 0).rate ≠ 0
      ∧ ((f (inUse .off row)).zones.get 0).mode = .off ∧ ((f (inUse .launch factoryMode)).modes.get 0).rate = 0)
    ∧ (let n := fun (sec : Word32) =>
         ((inUse .launch row).newRecord { secondPart with tagSec := sec } (0, false)).launch.diff ⟨99, 0⟩
       n 129 ≤ 30 * 10000000 ∧ 30 * 10000000 < n 130)
    ∧ (inUse .launch row).record 0 = none
    ∧ (∀ i, { inUse .launch row with table := Vector.replicate 32 (some (batch .ready)) }.record i ≠ none)
    ∧ (switching ⟨99, 0⟩).store.pending = some { target := 1, second := 100 } := by decide +kernel
theorem test_witness_creation :
    (let q := fun (z : ZoneMode) (late : LatePolicy) (x : Instant) =>
       (initialState z x ((inUse z { row with late := late }).newRecord secondPart (0, false))).state
     q .track .join ⟨99, 0⟩ = .shadow ∧ q .launch .join ⟨100, 937500⟩ = .shadow ∧ q .launch .drop ⟨99, 9800001⟩ = .shadow
      ∧ q .launch .join ⟨99, 9800001⟩ = .assembling ∧ q .launch .drop ⟨99, 9800000⟩ = .assembling) := by decide +kernel
/-- R109: a record created at exactly its deadline meets it in the event that follows. -/
theorem test_deadline_follows_creation :
    (State.followCreation (atInstant ⟨99, 9800000⟩) (holding (batch .assembling) ⟨99, 9800000⟩)).pending = [.deadline 0]
    ∧ (State.followCreation (atInstant ⟨99, 9799999⟩) (holding (batch .assembling) ⟨99, 9799999⟩)).pending = []
    ∧ (State.followCreation (atInstant ⟨99, 9800000⟩) (holding (shadowed .tracked) ⟨99, 9800000⟩)).pending = []
    ∧ (atInstant ⟨99, 9800000⟩).record 0 = none
    ∧ (((atInstant ⟨99, 0⟩).setRecord 0 (batch .assembling)).resolve 0).record 0 = some (batch .assembling) := by
  decide +kernel
theorem test_full_list_distinct : fullFreeList.Nodup := by
  unfold fullFreeList
  exact List.nodup_finRange _
theorem test_witness_stored : State.reset.symbols.memory.wf = true ∧ State.reset.symbols.free.Nodup
    ∧ [(0xC0 : Byte)].length = (1 + 3) / 4 ∧ (1 + 255) / 256 ≤ State.reset.symbols.free.length :=
  ⟨by decide, by simp only [State.reset]; exact test_full_list_distinct, by decide, by decide +kernel⟩
theorem test_witness_circle :
    [1, 2, 3].map (fun i => (circle.record i).map (fun (r : Record) => (r.keptKeyUp, r.number))) =
      [some (⟨99, 9850000⟩, 21846), some (⟨99, 9850000⟩, 0), some (⟨99, 9850000⟩, 43692)]
    ∧ circle.launchQueue.head? = some 2 ∧ precedes 21846 0 = false ∧ precedes 43692 21846 = false
    ∧ (circle.records.map Record.number).length = 3 := by decide +kernel
theorem test_witness_becoming_shadow : (holding (batch .ready) ⟨99, 0⟩).record 0 = some (batch .ready)
    ∧ (holding (shadowed .muted) ⟨99, 0⟩).record 0 = some (shadowed .muted) := by decide +kernel
theorem test_witness_deadline :
    (batch .assembling).deadline.diff ⟨99, 9800000⟩ ≤ 0 ∧ 0 < (batch .assembling).deadline.diff ⟨99, 9799999⟩
      ∧ ((batch .assembling).launch.add (ticksOf (batch .assembling).inc (batch .assembling).k)).diff ⟨100, 937500⟩ ≤ 0
      ∧ 0 < ((batch .assembling).launch.add (ticksOf (batch .assembling).inc (batch .assembling).k)).diff ⟨100, 937499⟩
      ∧ ((batch .ready).launch.add (ticksOf (batch .ready).inc (batch .ready).j)).diff ⟨100, 1⟩ < 0
      ∧ (bridging (batch .ready) ⟨100, 1⟩).keying.bridged = some 0
      ∧ (bridging (batch .ready) ⟨100, 1⟩).keying.endInstant ≠ none ∧ State.reset.record 0 = none
      ∧ (let s := (bridging (batch .ready) ⟨100, 1⟩).setRecord 1 { batch .ready with number := 9 }
         s.keying.bridged ≠ some 1 ∧ (s.becomeShadow 1 .droppedLate).headReady = s.headReady) := by decide +kernel
/-- HOLD for slot 0 with another record come READY ahead of it, with its key-up due and standing, and with one not due; and a
trim that moved the bridged launch by more than the bridge limit, its key-up formed again. -/
theorem test_witness_hold_ends :
    (let s := bridging (batch .ready) ⟨99, 9800000⟩
     let ahead := fun (k : Fin 10000000) => s.setRecord 1 { batch .ready with number := 9, keptKeyUp := ⟨99, k⟩ }
     s.keying.state = .hold ∧ s.keying.restRow = some row ∧ s.headReady = some 0
      ∧ (ahead 9800000).headReady = some 1 ∧ (ahead 9800001).headReady = some 1
      ∧ (∀ j, (ahead 9800001).keyUpReached j = false)
      ∧ (⟨99, 9800000⟩ : Instant).diff s.time.clock ≤ 0 ∧ 0 ≤ (batch .ready).keptLaunch.diff s.time.clock)
    ∧ (let trimmed := ({ batch .ready with j := 128 } : Record).reformed 50000
       (500000 : Int) < (trimmed.launch.add (ticksOf trimmed.inc trimmed.j)).diff ⟨99, 9800000⟩
        ∧ trimmed.keptKeyUp ≠ (batch .ready).keptKeyUp
        ∧ (bridging trimmed ⟨99, 9800000⟩).headReady = some 0)
    ∧ (let before := (bridging (batch .ready) ⟨99, 9850000⟩).setRecord 1 { batch .ready with number := 9 }
       let s := before.setRecord 0 (shadowed .aborted)
       (batch .ready).state = .ready ∧ (shadowed .aborted).state ≠ .ready ∧ s.headReady = some 1
        ∧ (batch .ready).keptKeyUp.diff s.time.clock ≤ 0) := by decide +kernel
theorem test_witness_completion :
    (∀ n, n < (batch .assembling).partCount → (batch .assembling).parts.getLsbD n = true)
      ∧ ¬ (∀ n, n < 1 → ({ batch .assembling with parts := 0 } : Record).parts.getLsbD n = true)
      ∧ (firstBoundary 1374390 ((⟨99, 9799000⟩ : Instant).add (50000 + 150000) |>.diff ⟨100, 0⟩) : Int) ≤ 300 - 64
      ∧ (300 : Int) - firstBoundary 1374390 ((⟨100, 900000⟩ : Instant).add (50000 + 150000) |>.diff ⟨100, 0⟩) < 64 := by
  decide +kernel
theorem test_witness_retirement : (holding (shadowed .muted) ⟨100, 939500⟩).record 0 = some (shadowed .muted)
    ∧ ((shadowed .muted).nominalEnd.add 2000).diff ⟨100, 939500⟩ ≤ 0
    ∧ 0 < ((shadowed .muted).nominalEnd.add 2000).diff ⟨100, 939499⟩ ∧ (shadowed .muted).blocks = []
    ∧ State.reset.store.settings.guard = 2000
    ∧ State.retiresNext (holding (batch .ready) ⟨100, 939500⟩) (holding (shadowed .muted) ⟨100, 939500⟩) 0 = true := by
  decide +kernel

/-- A winner whose launch is `d` ticks after the batch's, of one symbol. -/
def winner (d : Int) : Record :=
  { batch .ready with
    number := 8, cls := 2, launch := (⟨100, 0⟩ : Instant).add d, total := 1, k := 1,
    nominalEnd := (⟨100, 0⟩ : Instant).add (d + 3125) }

/-- R129: a range trimmed to no symbol at all is dropped, also under a join minimum of 0, and one of a single symbol is kept
there: a winner whose widened end falls on the kept end and one whose widened end falls a symbol before it. -/
theorem test_empty_range_is_dropped :
    (let l := { batch .ready with k := 2, row := { row with joinMin := 0 } }
     let trimmed := fun (d : Int) =>
       (((holding l ⟨99, 0⟩).trim 2000 0 1 (winner d) l).record 0).map (fun (r : Record) => (r.j, r.k, r.shadow))
     (trimmed 0, trimmed (-2000))) = (some (2, 2, some .droppedConflict), some (1, 2, none)) := by decide +kernel
theorem test_witness_trims :
    (let head := fun (d : Int) => firstBoundary 1374390 (((winner d).nominalEnd.add 2000).diff ⟨100, 0⟩)
     let tail := fun (d : Int) => lastBoundary 1374390 (((winner d).launch.add (-2000)).diff ⟨100, 0⟩)
     conflict 2000 (batch .ready) (winner 0) = true ∧ wins (winner 0) (batch .ready) = true
      ∧ wins (batch .ready) (winner 0) = false ∧ conflict 2000 (batch .ready) (winner 939500) = false
      ∧ (winner 0).launch.diff ⟨100, 0⟩ ≤ 0 ∧ head 0 = 2 ∧ head (-5125) = 0 ∧ 300 - 2 ≥ (64 : Int)
      ∧ 0 < (winner 6250).launch.diff ⟨100, 0⟩ ∧ tail 6250 = 1 ∧ tail 202000 = 64 ∧ tail 939500 = 300)
    ∧ (sending (batch .onAir) 63 196875).pacer.symbol < 64 ∧ 64 ≤ (sending (batch .onAir) 64 200000).pacer.symbol := by
  decide +kernel
theorem test_witness_drops :
    (let lead := keyed .lead (batch .keying) ⟨99, 9900000⟩
     let hold := keyed .hold (batch .keying) ⟨99, 9900000⟩
     lead.record 0 = some (batch .keying) ∧ lead.keying.state = .lead ∧ hold.record 0 = some (batch .keying)
      ∧ hold.keying.state = .hold ∧ hold.keying.restRow = some row) := by decide +kernel
theorem test_witness_key_up :
    (let s := holding (batch .ready) ⟨99, 9850000⟩
     s.record 0 = some (batch .ready) ∧ s.headReady = some 0 ∧ s.keying.state = .idle ∧ s.gateOpen row = true
      ∧ s.keying.txrdy = true ∧ (batch .ready).keptKeyUp.diff s.time.clock ≤ 0
      ∧ 0 < ((batch .ready).launch.add (ticksOf (batch .ready).inc (batch .ready).j)).diff s.time.clock)
    ∧ (((batch .ready).launch.add (ticksOf (batch .ready).inc (batch .ready).j)).diff ⟨100, 0⟩ = 0)
    ∧ (holding (batch .ready) ⟨99, 9850000⟩).readBlock { batch .ready with chains := Vector.replicate 16 [] } 0 = none
    ∧ (let s := bridging (batch .ready) ⟨99, 9850000⟩
       s.headReady = some 0 ∧ s.keying.state = .hold ∧ s.keying.current = none ∧ s.keying.bridged = some 0
        ∧ s.keying.restRow = some row ∧ row.tail ≤ 1000000 ∧ 0 ≤ (batch .ready).keptLaunch.diff s.time.clock)
    ∧ 1 ≤ row.tail ∧ { row with tail := 0 }.tail = 0 ∧ (bridging (batch .ready) ⟨100, 0⟩).headReady = some 0
    ∧ (let s := bridging { batch .ready with chains := Vector.replicate 16 [] } ⟨99, 9850000⟩
       s.readBlock { batch .ready with chains := Vector.replicate 16 [] } 0 = none ∧ s.headReady = some 0)
    ∧ ceilTicks 300000 = 300 ∧ ceilTicks 300001 = 301 ∧ row.tolerance = 300 := by decide +kernel
theorem test_witness_key_up_reads (s : State) (h : s.symbols = twoBlocks) :
    ∃ img, s.readBlock (batch .ready) ((batch .ready).j / 256) = some img := ⟨_, test_block_is_sound s h⟩
theorem test_witness_carry :
    (let s := sending { batch .onAir with stop := some { symbol := 1, outcome := .aborted } } 0 3125
     s.keying.state = .symbols ∧ 4294967296 ≤ s.pacer.acc ∧ s.keying.current = some 0 ∧ s.pacer.symbol + 1 < 300
      ∧ s.pacer.symbol < 1)
    ∧ (299 / 1024 < 16 ∧ (batch .onAir).blockOf (299 / 256) = some 1
      ∧ ({ index := 1, bytes := [] } : BlockImage).index = 299 / 256 ∧ (sending (batch .onAir) 0 0).pacer.block = none
      ∧ (sending (batch .onAir) 0 0).pacer.next = none)
    ∧ row.levelSet = .four ∧ { row with levelSet := .two }.levelSet = .two := by decide +kernel
theorem test_witness_last_carry :
    (let s := sending (batch .onAir) 299 937500
     let r := s.retire 0 (batch .onAir) .launched
     4294967296 ≤ s.pacer.acc ∧ (batch .onAir).k ≤ s.pacer.symbol + 1 ∧ (batch .onAir).stop = none ∧ r.headReady = none)
    ∧ (let q := { batch .ready with number := 9, launch := ⟨100, 1087501⟩, keptKeyUp := ⟨100, 937501⟩ }
       let s := (sending (batch .onAir) 299 937500).setRecord 1 q
       (s.retire 0 (batch .onAir) .launched).headReady = some 1
        ∧ (q.launch.add (ticksOf q.inc q.j)).diff s.time.clock ≤ s.store.settings.bridgeLimit
        ∧ 0 < q.keptKeyUp.diff s.time.clock)
    ∧ (let q := { batch .ready with number := 9, launch := ⟨100, 1437501⟩, keptKeyUp := ⟨100, 1287501⟩ }
       let s := (sending (batch .onAir) 299 937500).setRecord 1 q
       (s.retire 0 (batch .onAir) .launched).headReady = some 1
        ∧ s.store.settings.bridgeLimit < (q.launch.add (ticksOf q.inc q.j)).diff s.time.clock
        ∧ 0 < q.keptKeyUp.diff s.time.clock)
    ∧ (let s := sending { batch .onAir with stop := some { symbol := 4, outcome := .aborted } } 4 15625
       4294967296 ≤ s.pacer.acc ∧ 4 ≤ s.pacer.symbol ∧ ∀ j, s.keyUpReached j = false)
    ∧ (let q := { batch .ready with number := 9, launch := ⟨100, 1437500⟩, keptKeyUp := ⟨100, 937500⟩ }
       let s := (sending (batch .onAir) 299 937500).setRecord 1 q
       (s.retire 0 (batch .onAir) .launched).headReady = some 1 ∧ q.keptKeyUp.diff s.time.clock ≤ 0
        ∧ (q.launch.add (ticksOf q.inc q.j)).diff s.time.clock = s.store.settings.bridgeLimit
        ∧ s.gateOpen q.row = true ∧ s.keying.txrdy = true)
    ∧ (let q := { batch .ready with number := 9, launch := ⟨100, 1437501⟩, keptKeyUp := ⟨100, 937500⟩ }
       let s := (sending (batch .onAir) 299 937500).setRecord 1 q
       (s.retire 0 (batch .onAir) .launched).headReady = some 1 ∧ q.keptKeyUp.diff s.time.clock ≤ 0
        ∧ s.store.settings.bridgeLimit < (q.launch.add (ticksOf q.inc q.j)).diff s.time.clock
        ∧ { s with time := State.reset.time }.gateOpen q.row = false)
    ∧ (let q := { batch .ready with number := 9, launch := ⟨100, 200000⟩, keptKeyUp := ⟨100, 15625⟩ }
       let s := (sending { batch .onAir with stop := some { symbol := 4, outcome := .aborted } } 4 15625).setRecord 1 q
       s.headReady = some 1 ∧ q.keptKeyUp.diff s.time.clock ≤ 0
        ∧ 0 ≤ (q.launch.add (ticksOf q.inc q.j)).diff s.time.clock
        ∧ 0 < ((batch .onAir).nominalEnd.add 2000).diff s.time.clock) := by decide +kernel
/-- The same with a tail of 0, the key-up of slot 1 due and its launch beyond the bridge limit; and at a stop symbol. -/
theorem test_witness_last_carry_no_tail :
    (let r := { batch .onAir with row := { row with tail := 0 } }
     let q := { batch .ready with number := 9, launch := ⟨100, 1437501⟩, keptKeyUp := ⟨100, 937500⟩ }
     let s := (sending r 299 937500).setRecord 1 q
     (s.retire 0 r .launched).headReady = some 1 ∧ q.keptKeyUp.diff s.time.clock ≤ 0
      ∧ s.store.settings.bridgeLimit < (q.launch.add (ticksOf q.inc q.j)).diff s.time.clock
      ∧ s.gateOpen q.row = true ∧ s.keying.txrdy = true)
    ∧ (let r := { batch .onAir with row := { row with tail := 0 }, stop := some { symbol := 4, outcome := .aborted } }
       let q := { batch .ready with number := 9, keptKeyUp := ⟨100, 15625⟩, launch := ⟨100, 20000⟩ }
       let s := (sending r 4 15625).setRecord 1 q
       s.headReady = some 1 ∧ q.keptKeyUp.diff s.time.clock ≤ 0
        ∧ 0 ≤ (q.launch.add (ticksOf q.inc q.j)).diff s.time.clock
        ∧ 0 < (r.nominalEnd.add s.store.settings.guard).diff s.time.clock
        ∧ s.gateOpen q.row = true ∧ s.keying.txrdy = true) := by decide +kernel
/-- The block of symbol 0 is sound, so a decision that finds it can read it. -/
theorem test_witness_last_carry_reads :
    (sending (batch .onAir) 299 937500).readBlock (batch .ready) ((batch .ready).j / 256) ≠ none := by
  obtain ⟨img, h⟩ := test_witness_key_up_reads (sending (batch .onAir) 299 937500) rfl
  rw [h]; exact Option.some_ne_none img
/-- A block wanted before the launch with the key-up of another record due, from LEAD and from HOLD. -/
theorem test_witness_before_launch_key_up :
    ∀ q : SeqState, q = .lead ∨ q = .hold →
      (let s := (keyed q { batch .keying with chains := Vector.replicate 16 [] } ⟨99, 9900000⟩).setRecord 1
         { batch .ready with number := 9 }
       s.blockWanted.isSome = true ∧ s.keying.restRow = some row ∧ s.headReady = some 1
        ∧ (batch .ready).keptKeyUp.diff s.time.clock ≤ 0
        ∧ 0 ≤ ((batch .ready).launch.add (ticksOf (batch .ready).inc (batch .ready).j)).diff s.time.clock
        ∧ 0 < ((batch .keying).nominalEnd.add s.store.settings.guard).diff s.time.clock) := by
  rintro _ (rfl | rfl) <;> decide +kernel
/-- A block read before the launch that is sound, and one whose check disagrees. -/
theorem test_witness_before_launch :
    crc16 (twoBlocks.blockBytes 0) = twoBlocks.checks.get 0
    ∧ ¬ (∃ n, ({ batch .keying with chains := Vector.replicate 16 [] } : Record).blockOf 0 = some n
      ∧ crc16 (twoBlocks.blockBytes n) = twoBlocks.checks.get n) := by
  refine ⟨?_, ?_⟩
  · rw [test_zeros_in_a_block]; exact (test_check_beside_a_block _).symm
  · rintro ⟨n, h, -⟩
    rw [show ({ batch .keying with chains := Vector.replicate 16 [] } : Record).blockOf 0 = none from by decide +kernel] at h
    cases h
theorem test_witness_block_read :
    (let s := sending (batch .onAir) 255 796875
     s.record 0 = some (batch .onAir) ∧ s.pacer.symbol % 256 = 255 ∧ s.pacer.next = none
      ∧ 256 * (s.pacer.symbol / 256 + 1) < (batch .onAir).k ∧ (batch .onAir).stop = none
      ∧ (batch .onAir).blockOf (s.pacer.symbol / 256 + 1) = some 1) := by decide +kernel
theorem test_witness_block_faults (w : Word16) : (checked (w + 1)).checks.get 1 ≠ w := by
  rw [show (checked (w + 1)).checks.get 1 = w + 1 from rfl]
  intro h
  have := congrArg (· - w) h
  simp at this
theorem test_witness_tail :
    (let s := { State.reset with keying := { idleSequencer true with
        state := .tail, restRow := some row, tailEnd := some ⟨0, 0⟩ } }
     s.keying.state = .tail ∧ Instant.diff ⟨0, 0⟩ s.time.clock ≤ 0 ∧ 0 < Instant.diff ⟨0, 1⟩ s.time.clock
      ∧ s.keying.txrdy = true ∧ s.keying.state ≠ .idle ∧ ∀ i, s.keyUpReached i = false)
    ∧ (holding (batch .ready) ⟨99, 9850000⟩).headReady = some 0 ∧ (batch .ready).keptKeyUp.diff ⟨99, 9850000⟩ ≤ 0
    ∧ (atInstant ⟨0, 0⟩).keying.txrdy = false ∧ (holding (batch .ready) ⟨99, 0⟩).keying.state = .idle := by
  decide +kernel
theorem test_witness_requests : handed.addressing = .unicast ∧ (State.reset.link handed.link).replies.length < 4
    ∧ State.reset.engine = .free ∧ 0x0D < (0x0E : Byte).toNat ∧ Request.paramBytes .abort = some 3
    ∧ Engine.storing { snapshot := [], handed := handed, elapsed := 0 } ≠ .free
    ∧ 4 ≤ ({ State.reset.linkA with replies := [[1], [2], [3], [4]] } : CarriageLink).replies.length := by decide +kernel
theorem test_witness_digest : 4 ≤ (4 : Byte).toNat ∧ State.reset.engine = .free := by decide
theorem test_witness_read :
    (tableOf 0x14 = none ∧ tableOf 0x41 = some .counters ∧ TableId.moving .counters = false
      ∧ tableOf 0x42 = some .batches ∧ TableId.moving .batches = true)
    ∧ (State.reset.rows .batches).length = 0 ∧ (State.reset.rows .counters).length = 50
    ∧ (let s := { State.reset with table := Vector.replicate 32 (some (batch .ready)) }
       (s.rows .batches).length = 32 ∧ TableId.frameRows .batches < 32 - (0 : Byte).toNat) := by decide +kernel
theorem test_witness_multi_read :
    (let op : ReadOp := { handed := handed, table := 0x42, next := 10, stop := 32, frame := 1, stall := 20000000 }
     tableOf op.table = some .batches ∧ op.next ≤ op.stop ∧ 20000000 ≤ op.stall
      ∧ ({ State.reset with engine := .reading op }).engine = .reading op) := by decide +kernel
theorem test_witness_write :
    (tableOf 0x40 = some .history ∧ tableOf 0x20 = some (.modes 0) ∧ tableOf 0x21 = some (.modes 1))
      ∧ (List.replicate 32 (0 : Byte)) ≠ [] ∧ (List.replicate 32 (0 : Byte)).length % 32 = 0
      ∧ State.reset.store.active = 0 ∧ (7 : Byte).toNat + 1 ≤ 8 ∧ 8 < (8 : Byte).toNat + 1
      ∧ (settingsBytes defaultSettings).length = 35 ∧ (readSettings (settingsBytes defaultSettings)).isSome = true
      ∧ readSettings (List.replicate 35 0) = none ∧ defaultSettings.preferred.listed = true := by decide +kernel
/-- R67, R70, R73: a WRITE that lowers the silence time below the time run takes its link DOWN before its reply is placed, so
that the reply is held; a unicast WRITE of a new rate code is pending behind it, and link B's at once. -/
theorem test_write_silence_and_rates :
    (let s := { State.reset with linkA := { State.reset.linkA with up := true, silence := 50000000 } }
     let row := settingsBytes { defaultSettings with silence := 5, rateA := 7, rateB := 6 }
     (stepped { s with pending := [.write handed ([0, 0] ++ row)] }).map
       (fun t => (t.linkA.up, t.linkA.sending, t.linkA.replies.length, t.linkA.rateChange, t.linkB.lineRate))) =
    some (false, none, 1, some { code := 7, after := 1 }, 6) := by decide +kernel
theorem test_witness_profile_write : (row.offset = 0 ∧ (modeBytes row).length = 32 ∧ [(3 : Byte), 0, 0, 0].length = 4) ∧
    (2 : Fin 4) ≠ State.reset.store.active ∧ State.reset.store.pending = none
    ∧ ((rowsOf 32 1 (modeBytes row)).mapM readMode).isSome = true
    ∧ ((rowsOf 4 1 [3, 0, 0, 0]).mapM readZone) = none ∧ ((rowsOf 4 1 [2, 0, 0, 0]).mapM readZone).isSome = true := by
  decide +kernel
theorem test_witness_switch :
    (secondDiff 2 (State.reset.time.clock.sec + 1) = 1 ∧ secondDiff 1 (State.reset.time.clock.sec + 1) ≤ 0)
      ∧ State.reset.store.active.val ≠ (1 : Byte).toNat ∧ (3 : Fin 4).val = (3 : Byte).toNat
      ∧ (switching ⟨99, 0⟩).store.pending ≠ none
      ∧ (∃ r ∈ ((switching ⟨99, 0⟩).setRecord 0 { batch .ready with dependent := true }).records, r.dependent = true) :=
  ⟨by decide +kernel, by decide, by decide, by decide +kernel,
    ⟨_, by decide +kernel, show ({ batch .ready with dependent := true } : Record).dependent = true from rfl⟩⟩
theorem test_witness_store_and_recall : State.reset.engine = .free ∧ State.reset.store.pending = none
    ∧ State.reset.records = [] ∧ crc16 State.reset.store.nv.bytes ≠ State.reset.store.nv.check
    ∧ (holding (batch .ready) ⟨99, 0⟩).records ≠ [] := by decide +kernel
theorem test_witness_abort :
    (State.reset.slotOf 7 = none ∧ State.reset.records = [] ∧ State.reset.keying.state ≠ .hold)
      ∧ (holding (batch .ready) ⟨99, 0⟩).slotOf 7 = some 0
      ∧ (keyed .lead (batch .keying) ⟨99, 9850000⟩).keying.state = .lead
      ∧ (∀ j, (keyed .lead (batch .keying) ⟨99, 9850000⟩).keyUpReached j = false)
      ∧ (∀ j, j ≠ 0 → (keyed .lead (batch .keying) ⟨99, 9850000⟩).record j = none) ∧ 1 ≤ row.tail ∧ row.tail ≤ 1000000
      ∧ (keyed .hold (batch .keying) ⟨99, 9850000⟩).keying.restRow = some row
      ∧ (bridging (batch .ready) ⟨99, 9800000⟩).keying.bridged = some 0
      ∧ (bridging (batch .ready) ⟨99, 9800000⟩).keying.endInstant ≠ none ∧ 1 < (2 : Byte).toNat
      ∧ (let s := (bridging (batch .ready) ⟨99, 9800000⟩).setRecord 1 { batch .assembling with number := 9 }
         s.slotOf 9 = some 1 ∧ (s.becomeShadow 1 .aborted).headReady = some 0 ∧ s.headReady = s.keying.bridged
          ∧ s.keying.current = none)
      ∧ (keyed .hold (batch .keying) ⟨99, 9850000⟩).keying.current ≠ none
      ∧ (let s := (keyed .lead (batch .keying) ⟨99, 9900000⟩).setRecord 1 { batch .ready with number := 9 }
         s.headReady = some 1 ∧ (batch .ready).keptKeyUp.diff s.time.clock ≤ 0
          ∧ 0 < ((batch .keying).nominalEnd.add 2000).diff s.time.clock) := by decide +kernel
theorem test_witness_abort_then_key_up (s : State) : ∃ u, exec (.keyUp 1) s = .next u := ⟨_, rfl⟩
theorem test_witness_link_rate : State.reset.store.settings.rate .a = 5 ∧ 1 ≤ (7 : Byte).toNat ∧ (7 : Byte).toNat ≤ 7
    ∧ 7 < (8 : Byte).toNat ∧ (State.reset.link .b).deframer = .hunt
    ∧ ((receiving (.length none)).link .a).deframer ≠ .hunt ∧ handed.link = .a := by decide +kernel

end Sys2Proof.Tests
end

section
/-! SUPPORT. Moves within one event. Between a command that touches the site time unit or the TXRDY pin and the next, both
stand, and a record comes to be KEYING or ON_AIR through the launch gate alone (R16, R140). The relation below says so, and is
shown of every operation of the model. -/

namespace Sys2Proof.Machine

/-! ### What the operations read off the table -/

/-- The launch that is due, in LEAD or HOLD (R141, R145). -/
theorem State.launchDue_eq_some_iff (s : State) (i : Slot) :
    s.launchDue = some i ↔
      s.keying.current = some i ∧ (s.keying.state = .lead ∨ s.keying.state = .hold)
        ∧ ∃ r, s.record i = some r ∧ r.state = .keying ∧ r.keptLaunch.diff s.time.clock ≤ 0 := by
  have slot : ∀ (j : Slot) (q : Option Record), s.record j = q → ((match q with
      | some r => if r.state = .keying ∧ r.keptLaunch.reached s.time.clock = true then some j else none
      | none => none) = some i ↔
      j = i ∧ ∃ r, s.record i = some r ∧ r.state = .keying ∧ r.keptLaunch.diff s.time.clock ≤ 0) := by
    rintro j (_ | r) hr
    · simp only [reduceCtorEq, false_iff]
      rintro ⟨rfl, r, h, -⟩
      cases hr.symm.trans h
    · simp only [Option.ite_none_right_eq_some, Option.some.injEq, Instant.reached_iff]
      constructor
      · rintro ⟨due, rfl⟩
        exact ⟨rfl, r, hr, due⟩
      · rintro ⟨rfl, q, hq, due⟩
        cases hr.symm.trans hq
        exact ⟨due, rfl⟩
  unfold State.launchDue
  split
  · next j hk hc => simp only [hk, hc, Option.some.injEq, true_or, true_and]; exact slot j _ rfl
  · next j hk hc => simp only [hk, hc, Option.some.injEq, or_true, true_and]; exact slot j _ rfl
  · next lead hold =>
    simp only [reduceCtorEq, false_iff]
    rintro ⟨hc, hk | hk, -⟩
    · exact lead i hk hc
    · exact hold i hk hc

/-- The block that is wanted, on the air or before the launch (R103, R141). -/
theorem State.blockWanted_eq_some_iff (s : State) (i : Slot) (r : Record) (b : Nat) :
    s.blockWanted = some (i, r, b) ↔
      s.keying.current = some i ∧ s.record i = some r
        ∧ ((r.state = .onAir ∧ s.keying.state = .symbols ∧ b = s.pacer.symbol / 256 + 1
            ∧ s.pacer.symbol % 256 = 255 ∧ 256 * b < r.k ∧ r.stop = none ∧ s.pacer.next.map (·.index) ≠ some b)
          ∨ (r.state = .keying ∧ b = r.j / 256 ∧ s.pacer.block.map (·.index) ≠ some b)) := by
  unfold State.blockWanted
  split
  · next hc => simp [hc]
  · next j hc =>
    rw [hc, Option.some.injEq]
    split
    · next hr =>
      simp only [reduceCtorEq, false_iff]
      rintro ⟨rfl, h, -⟩
      cases hr.symm.trans h
    · next q hr =>
      have same : j = i ∧ s.record i = some r ↔ j = i ∧ q = r := by
        constructor
        · rintro ⟨rfl, h⟩
          exact ⟨rfl, Option.some.inj (hr.symm.trans h)⟩
        · rintro ⟨rfl, rfl⟩
          exact ⟨rfl, hr⟩
      rw [← and_assoc, same]
      dsimp only
      split
      · next ha hk =>
        simp only [Option.ite_none_right_eq_some, Option.some.injEq, Prod.mk.injEq]
        constructor
        · rintro ⟨⟨h1, h2, h3, h4⟩, rfl, rfl, rfl⟩
          exact ⟨⟨rfl, rfl⟩, Or.inl ⟨ha, hk, rfl, h1, h2, h3, h4⟩⟩
        · rintro ⟨⟨rfl, rfl⟩, ⟨-, -, rfl, h⟩ | ⟨h, -⟩⟩
          · exact ⟨h, rfl, rfl, rfl⟩
          · cases ha.symm.trans h
      · next _ ha =>
        simp only [Option.ite_none_right_eq_some, Option.some.injEq, Prod.mk.injEq]
        constructor
        · rintro ⟨h, rfl, rfl, rfl⟩
          exact ⟨⟨rfl, rfl⟩, Or.inr ⟨ha, rfl, h⟩⟩
        · rintro ⟨⟨rfl, rfl⟩, ⟨h, -⟩ | ⟨-, rfl, h⟩⟩
          · cases ha.symm.trans h
          · exact ⟨h, rfl, rfl, rfl⟩
      · next key air =>
        simp only [reduceCtorEq, false_iff]
        rintro ⟨⟨rfl, rfl⟩, ⟨ha, hk, -⟩ | ⟨ha, -⟩⟩
        · exact air ha hk
        · exact key ha
/-- A table of FREE slots alone holds no record. -/
theorem State.record_of_empty {s : State} (h : s.table = Vector.replicate Config.slots none) (i : Slot) :
    s.record i = none := by
  simp [State.record, h, Vector.get]

theorem State.record_warmRestart (s : State) (i : Slot) : s.warmRestart.record i = none := State.record_of_empty rfl i
theorem State.record_coldStart (s : State) (i : Slot) : s.coldStart.record i = none := State.record_of_empty rfl i

/-! ### The relation -/

/-- A record keyed after a move was so before it, with the same row, or has passed the gate and TXRDY as they stand. -/
def KeyedByGate (s t : State) : Prop :=
  ∀ i r, t.record i = some r → r.keyed →
    (∃ q, s.record i = some q ∧ q.keyed ∧ q.row = r.row) ∨ (t.gateOpen r.row = true ∧ t.keying.txrdy = true)

/-- A move that leaves the site time unit and TXRDY as they stand and keys no record but through the gate. -/
structure GuardedMove (s t : State) : Prop where
  time : t.time = s.time
  txrdy : t.keying.txrdy = s.keying.txrdy
  keyed : KeyedByGate s t

/-- The gate reads the site time unit alone. -/
theorem State.gateOpen_of_time {s t : State} (h : t.time = s.time) (row : ModeRow) :
    t.gateOpen row = s.gateOpen row := by
  simp only [State.gateOpen, h]

theorem KeyedByGate.of_records {s t : State} (h : ∀ i, t.record i = s.record i) : KeyedByGate s t :=
  fun i r hr hk => Or.inl ⟨r, (h i).symm.trans hr, hk, rfl⟩

/-- A move that keeps the table, then a guarded one. -/
theorem KeyedByGate.before {s u t : State} (hu : KeyedByGate s u) (h : GuardedMove u t) : KeyedByGate s t := by
  intro i r hr hk
  rcases h.keyed i r hr hk with ⟨q, hq, hqk, hrow⟩ | open_now
  · rcases hu i q hq hqk with ⟨p, hp, hpk, hprow⟩ | ⟨gate, ready⟩
    · exact Or.inl ⟨p, hp, hpk, hprow.trans hrow⟩
    · exact Or.inr ⟨by rw [State.gateOpen_of_time h.time, ← hrow, gate], by rw [h.txrdy, ready]⟩
  · exact Or.inr open_now

namespace GuardedMove

theorem refl (s : State) : GuardedMove s s := ⟨rfl, rfl, KeyedByGate.of_records fun _ => rfl⟩

theorem trans {s u t : State} (h : GuardedMove s u) (h' : GuardedMove u t) : GuardedMove s t :=
  ⟨h'.time.trans h.time, h'.txrdy.trans h.txrdy, h.keyed.before h'⟩

/-- A move that leaves the table, the site time unit and TXRDY. -/
theorem of_table {s t : State} (htime : t.time = s.time) (htx : t.keying.txrdy = s.keying.txrdy)
    (htable : t.table = s.table) : GuardedMove s t :=
  ⟨htime, htx, KeyedByGate.of_records fun i => State.record_of_table t s i htable⟩

/-- A guarded move out of a state that has the table, the site time unit and TXRDY of another. -/
theorem via {s u t : State} (h : GuardedMove u t) (htime : u.time = s.time)
    (htx : u.keying.txrdy = s.keying.txrdy) (htable : u.table = s.table) : GuardedMove s t :=
  (of_table htime htx htable).trans h

theorem ite {s t u : State} {p : Prop} [Decidable p] (ht : GuardedMove s t) (hu : GuardedMove s u) :
    GuardedMove s (if p then t else u) := by
  split
  · exact ht
  · exact hu

theorem foldl {α : Type} {f : State → α → State} (hf : ∀ s a, GuardedMove s (f s a)) (xs : List α) (s : State) :
    GuardedMove s (xs.foldl f s) := by
  induction xs generalizing s with
  | nil => exact refl s
  | cons x xs ih => exact (hf s x).trans (ih (f s x))

/-! ### Operations that touch neither the table nor the gate -/

theorem bump (s : State) (c : Counter) : GuardedMove s (s.bump c) := of_table rfl rfl rfl
theorem latch (s : State) (a : Alarm) : GuardedMove s (s.latch a) := of_table rfl rfl rfl
theorem follow (s : State) (cs : List Instr) : GuardedMove s (s.follow cs) := of_table rfl rfl rfl
theorem releaseBlocks (s : State) (r : Record) : GuardedMove s (s.releaseBlocks r) := of_table rfl rfl rfl
theorem put (s : State) (w : Word16) : GuardedMove s (s.put w) := of_table rfl rfl rfl
theorem takeCarry (s : State) : GuardedMove s s.takeCarry := of_table rfl rfl rfl
theorem setProfile (s : State) (p : Fin 4) (f : Profile) : GuardedMove s (s.setProfile p f) := of_table rfl rfl rfl
theorem setNvFault (s : State) (f : Bool) : GuardedMove s (s.setNvFault f) := of_table (by simp) (by simp) (by simp)
theorem setLink (s : State) (l : Link) (c : CarriageLink) : GuardedMove s (s.setLink l c) :=
  of_table (by simp) (by simp) (by simp)
theorem endAttempt (s : State) (l : Link) (d : Disposition) : GuardedMove s (s.endAttempt l d) :=
  of_table (by simp) (by simp) (by simp)
theorem placeReply (s : State) (l : Link) (body : List Byte) : GuardedMove s (s.placeReply l body) :=
  of_table (by simp) (by simp) (by simp)
theorem enterIdle (s : State) : GuardedMove s s.enterIdle := of_table rfl rfl rfl
theorem enterTail (s : State) (row : ModeRow) (strobe : Bool) : GuardedMove s (s.enterTail row strobe) :=
  of_table (by simp) (by cases strobe <;> rfl) (by simp)
theorem tailFromHold (s : State) : GuardedMove s s.tailFromHold := enterTail s _ _

theorem zeroTail (s : State) : GuardedMove s s.zeroTail := ite (enterIdle s) (refl s)

/-! ### Records -/

/-- A record put in the slot of another, keyed only where that one was. -/
theorem setRecord_from {s : State} {i : Slot} {q r : Record} (hq : s.record i = some q)
    (h : r.keyed → q.keyed ∧ q.row = r.row) : GuardedMove s (s.setRecord i r) := by
  refine ⟨rfl, rfl, fun j r' hr' hk => Or.inl ?_⟩
  rw [State.record_setRecord] at hr'
  split at hr'
  · cases hr'
    subst j
    exact ⟨q, hq, h hk⟩
  · exact ⟨r', hr', hk, rfl⟩

/-- A record that is not keyed put in a slot. -/
theorem setRecord_unkeyed {s : State} {i : Slot} {r : Record} (h : ¬ r.keyed) : GuardedMove s (s.setRecord i r) := by
  refine ⟨rfl, rfl, fun j r' hr' hk => Or.inl ?_⟩
  rw [State.record_setRecord] at hr'
  split at hr'
  · cases hr'
    exact absurd hk h
  · exact ⟨r', hr', hk, rfl⟩

/-- A record put in a slot behind an open gate. -/
theorem setRecord_gate {s : State} {i : Slot} {r : Record} (gate : s.gateOpen r.row = true)
    (ready : s.keying.txrdy = true) : GuardedMove s (s.setRecord i r) := by
  refine ⟨rfl, rfl, fun j r' hr' hk => ?_⟩
  rw [State.record_setRecord] at hr'
  split at hr'
  · cases hr'
    exact Or.inr ⟨gate, ready⟩
  · exact Or.inl ⟨r', hr', hk, rfl⟩

theorem freeSlot (s : State) (i : Slot) : GuardedMove s (s.freeSlot i) := by
  refine ⟨rfl, rfl, fun j r hr hk => Or.inl ⟨r, ?_, hk, rfl⟩⟩
  rw [State.record_freeSlot] at hr
  split at hr
  · cases hr
  · exact hr

theorem clearDependents (s : State) : GuardedMove s s.clearDependents := by
  refine ⟨rfl, rfl, fun j r hr hk => Or.inl ?_⟩
  rw [State.record_clearDependents, Option.map_eq_some_iff] at hr
  obtain ⟨q, hq, rfl⟩ := hr
  exact ⟨q, hq, hk, rfl⟩

theorem not_keyed_of_shadow {r : Record} (h : r.state = .shadow) : ¬ r.keyed := by simp [Record.keyed, h]
theorem not_keyed_of_ready {r : Record} (h : r.state = .ready) : ¬ r.keyed := by simp [Record.keyed, h]
theorem not_keyed_of_assembling {r : Record} (h : r.state = .assembling) : ¬ r.keyed := by simp [Record.keyed, h]

theorem becomeShadow (s : State) (i : Slot) (o : BatchOutcome) : GuardedMove s (s.becomeShadow i o) := by
  rcases State.becomeShadow_cases s i o with ⟨_, e⟩ | ⟨r, _, _, e⟩
  · rw [e]
    exact refl s
  · rw [e]
    exact (releaseBlocks s r).trans (setRecord_unkeyed (not_keyed_of_shadow rfl))

theorem retire (s : State) (i : Slot) (r : Record) (o : BatchOutcome) : GuardedMove s (s.retire i r o) :=
  ((releaseBlocks s r).trans (freeSlot _ i)).trans (of_table rfl rfl rfl)

theorem retireShadow (s : State) (i : Slot) : GuardedMove s (s.retireShadow i) := by
  unfold State.retireShadow
  split
  · exact refl s
  · split
    · exact retire s i _ _
    · exact refl s

theorem joinRule (s : State) (i : Slot) (r : Record) : GuardedMove s (s.joinRule i r) :=
  ite (becomeShadow s i _) (setRecord_unkeyed (not_keyed_of_ready rfl))

theorem completeRecord (s : State) (i : Slot) : GuardedMove s (s.completeRecord i) := by
  unfold State.completeRecord
  split
  · exact refl s
  · exact ite (ite (joinRule s i _) (setRecord_unkeyed (not_keyed_of_ready rfl))) (refl s)

theorem deadlineActs (s : State) (i : Slot) : GuardedMove s (s.deadlineActs i) := by
  unfold State.deadlineActs
  split
  · exact refl s
  · next r hr => exact ite (becomeShadow s i _) (setRecord_from hr fun hk => ⟨hk, rfl⟩)

theorem setPending (s : State) (p : Option PendingSwitch) : GuardedMove s (s.setPending p) :=
  via (clearDependents _) rfl rfl rfl

theorem takeSwitch (s : State) : GuardedMove s s.takeSwitch := by
  unfold State.takeSwitch
  split
  · exact refl s
  · exact via (clearDependents _) rfl rfl rfl

theorem retireNext (before s : State) : GuardedMove s (State.retireNext before s) := follow s _

/-! ### Keying -/

theorem dropRecord (s : State) (i : Slot) (o : BatchOutcome) : GuardedMove s (s.dropRecord i o) := by
  unfold State.dropRecord
  split
  · exact refl s
  · have shadow := becomeShadow s i o
    dsimp only
    split
    · exact shadow.trans (enterTail _ _ _)
    · exact shadow.trans (tailFromHold _)
    · exact shadow

/-- The symbols of a keyed record start. -/
theorem startSymbols {s : State} {i : Slot} {r : Record} (hr : s.record i = some r) (hk : r.keyed) :
    GuardedMove s (s.startSymbols i) := by
  unfold State.startSymbols
  simp only [hr]
  exact (setRecord_from (r := { r with state := .onAir, sent := r.sent + 1 }) hr fun _ => ⟨hk, rfl⟩).trans
    (of_table rfl rfl rfl)

theorem becomeKeying {s : State} {i : Slot} {r : Record} (gate : s.gateOpen r.row = true)
    (ready : s.keying.txrdy = true) : GuardedMove s (s.becomeKeying i r) := by
  have put_in : GuardedMove s (s.setRecord i { r with state := .keying }) := setRecord_gate gate ready
  unfold State.becomeKeying
  dsimp only
  split <;> exact put_in.trans (of_table rfl rfl rfl)

theorem refuseKeyUp (s : State) (i : Slot) (o : BatchOutcome) : GuardedMove s (s.refuseKeyUp i o) := by
  have shadow := becomeShadow s i o
  unfold State.refuseKeyUp
  dsimp only
  split
  · exact shadow.trans ((tailFromHold _).trans (zeroTail _))
  · exact shadow

theorem becomeKeying_record (s : State) (i : Slot) (r : Record) (j : Slot) :
    (s.becomeKeying i r).record j = if j = i then some { r with state := .keying } else s.record j := by
  rw [← State.record_setRecord]
  unfold State.becomeKeying
  dsimp only
  split <;> rfl

theorem decideKeyUp (s : State) (i : Slot) : GuardedMove s (s.decideKeyUp i) := by
  unfold State.decideKeyUp
  split
  · exact refl s
  · next r hr =>
    by_cases gate : s.gateOpen r.row = false
    · rw [if_pos gate]
      exact (latch s _).trans (refuseKeyUp _ _ _)
    by_cases ready : s.keying.txrdy = false
    · rw [if_neg gate, if_pos ready]
      exact (latch s _).trans (refuseKeyUp _ _ _)
    rw [if_neg gate, if_neg ready]
    have keying : GuardedMove s (s.becomeKeying i r) := becomeKeying (by simpa using gate) (by simpa using ready)
    dsimp only
    split
    · exact keying.trans ((latch _ _).trans ((dropRecord _ _ _).trans (zeroTail _)))
    · next img _ =>
      have held : GuardedMove (s.becomeKeying i r) { s.becomeKeying i r with
          pacer := { acc := 0, symbol := r.j, block := some img, next := none } } := of_table rfl rfl rfl
      have there := becomeKeying_record s i r i
      rw [if_pos rfl] at there
      exact ite ((keying.trans held).trans (startSymbols there (Or.inl rfl))) (keying.trans held)

theorem considerNext (s : State) : GuardedMove s s.considerNext := follow s _

theorem decideThenNext (s : State) (i : Slot) : GuardedMove s (s.decideThenNext i) :=
  ite ((decideKeyUp s i).trans (considerNext _)) (decideKeyUp s i)

theorem decideIfDue (s : State) : GuardedMove s s.decideIfDue := by
  unfold State.decideIfDue
  split
  · exact refl s
  · exact ite (decideThenNext s _) (refl s)

theorem afterTailEntry (before s : State) : GuardedMove s (State.afterTailEntry before s) :=
  ite ((ite (decideIfDue s) (refl s)).trans (zeroTail _)) (refl s)

theorem settleKeying (before s : State) : GuardedMove s (State.settleKeying before s) :=
  (ite (tailFromHold s) (refl s)).trans (afterTailEntry before _)

theorem readOnAir {s : State} {i : Slot} {r : Record} (hr : s.record i = some r) (b : Nat) :
    GuardedMove s (s.readOnAir i r b) := by
  unfold State.readOnAir
  split
  · exact of_table rfl rfl rfl
  · exact (latch s _).trans (setRecord_from (q := r) hr fun hk => ⟨hk, rfl⟩)

theorem readBeforeLaunch (s : State) (i : Slot) (r : Record) (b : Nat) :
    GuardedMove s (s.readBeforeLaunch i r b) := by
  unfold State.readBeforeLaunch
  split
  · exact of_table rfl rfl rfl
  · exact (latch s _).trans ((dropRecord _ _ _).trans (settleKeying _ _))

theorem endOfSymbols (s : State) (i : Slot) (r : Record) : GuardedMove s (s.endOfSymbols i r) := by
  have retired := retire s i r r.airOutcome
  have tail := retired.trans ((enterTail _ r.row true).trans (afterTailEntry s _))
  unfold State.endOfSymbols
  dsimp only
  split
  · exact tail
  · refine ite ?_ tail
    exact retired.trans (via (ite (decideThenNext _ _) (refl _)) rfl rfl rfl)

theorem stopRecord (s : State) (i : Slot) (r : Record) (o : BatchOutcome) : GuardedMove s (s.stopRecord i r o) :=
  (becomeShadow s i o).trans ((enterTail _ _ _).trans (afterTailEntry s _))

theorem nextSymbol {s : State} {i : Slot} {r : Record} (hr : s.record i = some r) :
    GuardedMove s (s.nextSymbol i r) :=
  (setRecord_from (r := { r with sent := r.sent + 1 }) hr fun hk => ⟨hk, rfl⟩).trans (of_table rfl rfl rfl)

theorem carry (s : State) : GuardedMove s s.carry := by
  unfold State.carry
  split
  · exact refl s
  · split
    · exact refl s
    · next i _ _ r hr =>
      have onward : GuardedMove s (if r.k ≤ s.pacer.symbol + 1 then s.takeCarry.endOfSymbols i r
          else s.takeCarry.nextSymbol i r) :=
        (takeCarry s).trans (ite (endOfSymbols _ _ _) (nextSymbol hr))
      dsimp only
      split
      · exact ite ((takeCarry s).trans (stopRecord _ _ _ _)) onward
      · exact onward

/-! ### The conflict resolver -/

theorem headTrim_keeps (guard margin : Nat) (w l : Record) :
    (headTrim guard margin w l).state = l.state ∧ (headTrim guard margin w l).row = l.row := by
  unfold headTrim
  dsimp only
  split <;> exact ⟨rfl, rfl⟩

theorem tailTrim_keeps (guard : Nat) (w l : Record) :
    (tailTrim guard w l).state = l.state ∧ (tailTrim guard w l).row = l.row := by
  unfold tailTrim
  dsimp only
  split <;> exact ⟨rfl, rfl⟩

theorem trimWaiting {s : State} {i : Slot} {l : Record} (hl : s.record i = some l) (guard : Nat) (w : Record) :
    GuardedMove s (s.trimWaiting guard i w l) := by
  have trimmed : ∀ l' : Record, l'.state = l.state ∧ l'.row = l.row → GuardedMove s (s.setRecord i l') := by
    rintro l' ⟨hs, hrow⟩
    exact setRecord_from hl fun hk => ⟨by simpa [Record.keyed, hs] using hk, hrow.symm⟩
  have judged := trimmed (if headWinner w l then headTrim guard s.store.settings.setupMargin w l else tailTrim guard w l) (by
    split
    · exact headTrim_keeps _ _ w l
    · exact tailTrim_keeps _ w l)
  exact ite (refl s) (ite (judged.trans (dropRecord _ _ _)) judged)

theorem trimOnAir {s : State} {i : Slot} {l : Record} (hl : s.record i = some l) (guard : Nat) (iw : Slot)
    (w : Record) : GuardedMove s (s.trimOnAir guard i iw w l) := by
  have dropped := becomeShadow s iw .droppedLate
  exact ite (ite dropped (refl s)) (ite (refl s) (ite (setRecord_from hl fun hk => ⟨hk, rfl⟩) dropped))

theorem trim {s : State} {i : Slot} {l : Record} (hl : s.record i = some l) (guard : Nat) (iw : Slot)
    (w : Record) : GuardedMove s (s.trim guard i iw w l) := by
  unfold State.trim
  split
  · exact refl s
  · exact trimOnAir hl guard iw w
  all_goals exact trimWaiting hl guard w

theorem firstPass (guard : Nat) (new : Slot) (s : State) (e : Slot) :
    GuardedMove s (State.firstPass guard new s e) := by
  refine ite (refl s) ?_
  split
  · next hr _ => exact ite (trim hr guard e _) (refl s)
  · exact refl s

theorem secondPass (guard : Nat) (new : Slot) (s : State) (e : Slot) :
    GuardedMove s (State.secondPass guard new s e) := by
  refine ite (refl s) ?_
  split
  · next hl => exact ite (trim hl guard new _) (refl s)
  · exact refl s

theorem resolve (s : State) (new : Slot) : GuardedMove s (s.resolve new) :=
  (foldl (firstPass _ new) allSlots s).trans (foldl (secondPass _ new) allSlots _)

/-! ### Links and replies -/

theorem answer (s : State) (h : Handed) (q : Request) (res : Result) (data : List Byte) :
    GuardedMove s (s.answer h q res data) := by
  rcases State.answer_cases s h q res data with ⟨_, e⟩ | ⟨_, e⟩
  · rw [e]
    exact placeReply s _ _
  · rw [e]
    exact refl s

theorem applyRate (s : State) (l : Link) (code : Nat) : GuardedMove s (s.applyRate l code) :=
  ite (setLink s l _) ((setLink s l _).trans (endAttempt _ _ _))

theorem changeRate (s : State) (h : Handed) (l : Link) (code : Nat) : GuardedMove s (s.changeRate h l code) :=
  ite (setLink s l _) (applyRate s l code)

theorem silenceCheck (s : State) (l : Link) : GuardedMove s (s.silenceCheck l) :=
  ite ((setLink s l _).trans (latch _ _)) (refl s)

theorem rateFollows (h : Handed) (old new : Settings) (s : State) (l : Link) :
    GuardedMove s (State.rateFollows h old new s l) :=
  ite (refl s) (changeRate s h l _)

theorem installSettings (s : State) (h : Handed) (new : Settings) {reply : State → State}
    (hreply : ∀ u, GuardedMove u (reply u)) : GuardedMove s (s.installSettings h new reply) := by
  have installed : GuardedMove s { s with store := { s.store with settings := new } } := of_table rfl rfl rfl
  exact installed.trans ((silenceCheck _ .a).trans ((silenceCheck _ .b).trans
    ((hreply _).trans ((rateFollows _ _ _ _ _).trans (rateFollows _ _ _ _ _)))))

/-! ### The management engine -/

theorem writeRows (s : State) (h : Handed) (t : TableId) (first : Nat) (rows : List (List Byte)) :
    GuardedMove s (s.writeRows h t first rows) := by
  have refused : ∀ res, GuardedMove s (s.answer h .write res []) := fun res => answer s h _ res []
  have replaced : ∀ p f res, GuardedMove s ((s.setProfile p f).answer h .write res []) := fun p f res =>
    (setProfile s p f).trans (answer _ h _ res [])
  cases t with
  | settings =>
    simp only [State.writeRows]
    split
    · exact refused _
    · exact installSettings s h _ fun u => answer u h _ _ _
  | site p => exact replaced p _ _
  | modes p =>
    simp only [State.writeRows]
    split
    · exact refused _
    · exact replaced p _ _
  | zones p =>
    simp only [State.writeRows]
    split
    · exact refused _
    · exact replaced p _ _
  | history => exact refused _
  | counters => exact refused _
  | batches => exact refused _

theorem doWrite (s : State) (h : Handed) (params : List Byte) : GuardedMove s (s.doWrite h params) := by
  unfold State.doWrite
  split
  · exact answer s h _ _ _
  · exact writeRows s h _ _ _

theorem placeReadFrame (s : State) (op : ReadOp) : GuardedMove s (s.placeReadFrame op) :=
  (placeReply s op.handed.link _).trans (of_table rfl rfl rfl)

theorem beginRead (s : State) (op : ReadOp) : GuardedMove s (s.beginRead op) :=
  ite (placeReadFrame s op) (of_table rfl rfl rfl)

theorem doRead (s : State) (h : Handed) (params : List Byte) : GuardedMove s (s.doRead h params) := by
  unfold State.doRead
  dsimp only
  split
  · exact answer s h _ _ _
  · split
    · exact answer s h _ _ _
    · refine ite (answer s h _ _ _) ?_
      split
      · exact beginRead s _
      all_goals exact refl s

theorem doDigest (s : State) (h : Handed) (params : List Byte) : GuardedMove s (s.doDigest h params) := by
  unfold State.doDigest
  split <;> exact answer s h _ _ _

theorem doSwitch (s : State) (h : Handed) (params : List Byte) : GuardedMove s (s.doSwitch h params) := by
  have answered : ∀ res, GuardedMove s (s.answer h .switch res []) := fun res => answer s h _ res []
  unfold State.doSwitch
  dsimp only
  split
  · exact ite (answered _) (ite (answered _) ((setPending s _).trans (answer _ h _ _ _)))
  · exact answered _

theorem doCancelSwitch (s : State) (h : Handed) : GuardedMove s (s.doCancelSwitch h) :=
  ite (answer s h _ _ _) (ite ((setPending s _).trans (answer _ h _ _ _)) (answer s h _ _ _))

theorem doRecall (s : State) (h : Handed) : GuardedMove s (s.doRecall h) := by
  refine ite (answer s h _ _ _) ?_
  split
  · exact (setNvFault s true).trans (answer _ h _ _ _)
  · next settings profiles active _ =>
    have recalled : GuardedMove s { s with store := { s.store with profiles := profiles, active := active } } :=
      of_table rfl rfl rfl
    exact recalled.trans (installSettings _ h settings fun u => answer u h _ _ _)

theorem abortRecord (s : State) (i : Slot) : GuardedMove s (s.abortRecord i) := by
  unfold State.abortRecord
  split
  · exact refl s
  · next r hr =>
    split
    · exact refl s
    · exact ite (setRecord_from hr fun hk => ⟨hk, rfl⟩) (refl s)
    all_goals exact dropRecord s i _

theorem doAbort (s : State) (h : Handed) (params : List Byte) : GuardedMove s (s.doAbort h params) := by
  have settled : ∀ u, GuardedMove s u →
      GuardedMove s ((State.retireNext s (State.settleKeying s u)).answer h .abort .done []) := fun u hu =>
    hu.trans ((settleKeying s u).trans ((retireNext s _).trans (answer _ h _ _ _)))
  refine ite ?_ (ite (settled _ (foldl abortRecord allSlots s)) (answer s h _ _ _))
  split
  · exact answer s h _ _ _
  · exact settled _ (abortRecord s _)

theorem doSetLinkRate (s : State) (h : Handed) (params : List Byte) : GuardedMove s (s.doSetLinkRate h params) := by
  unfold State.doSetLinkRate
  dsimp only
  split
  · exact answer s h _ _ _
  · next l _ =>
    have changed : GuardedMove s { s with store := { s.store with
        settings := s.store.settings.setRate l (params.getD 1 0).toNat } } := of_table rfl rfl rfl
    exact ite (changed.trans ((answer _ h _ _ _).trans (rateFollows _ _ _ _ _))) (answer s h _ _ _)

theorem doAckAlarms (s : State) (h : Handed) (params : List Byte) : GuardedMove s (s.doAckAlarms h params) :=
  (of_table rfl rfl rfl : GuardedMove s { s with latches := s.latches &&& ~~~(params.getD 0 0) }).trans
    (answer _ h _ _ _)

theorem doClearCounters (s : State) (h : Handed) : GuardedMove s (s.doClearCounters h) :=
  (of_table rfl rfl rfl : GuardedMove s { s with counters := Vector.replicate Config.counters 0 }).trans
    (answer _ h _ _ _)

theorem doRestart (s : State) (h : Handed) : GuardedMove s (s.doRestart h) :=
  (answer s h .restart .done []).trans (of_table rfl rfl rfl)

theorem carryOut (s : State) (q : Request) (h : Handed) (params : List Byte) :
    GuardedMove s (s.carryOut q h params) := by
  match q with
  | .status => exact answer s h _ _ _
  | .read => exact doRead s h params
  | .write => exact doWrite s h params
  | .digest => exact doDigest s h params
  | .switch => exact doSwitch s h params
  | .cancelSwitch => exact doCancelSwitch s h
  | .store => exact of_table rfl rfl rfl
  | .recall => exact doRecall s h
  | .abort => exact doAbort s h params
  | .ackAlarms => exact doAckAlarms s h params
  | .clearCounters => exact doClearCounters s h
  | .setLinkRate => exact doSetLinkRate s h params
  | .restart => exact doRestart s h

theorem turnAway (s : State) (q : Request) (h : Handed) : GuardedMove s (s.turnAway q h) := by
  unfold State.turnAway
  split
  · exact (bump s _).trans (answer _ h _ _ _)
  all_goals exact bump s _

theorem misunderstood (s : State) (h : Handed) (code : Byte) : GuardedMove s (s.misunderstood h code) := by
  unfold State.misunderstood
  split
  · exact placeReply s _ _
  all_goals exact refl s

theorem takeRequest (s : State) (code : Byte) (h : Handed) (params : List Byte) :
    GuardedMove s (s.takeRequest code h params) := by
  refine (bump s (.mgmt .requestsTaken)).trans ?_
  unfold State.takeRequest
  dsimp only
  split
  · exact misunderstood _ h code
  · exact ite (turnAway _ _ h) (ite (carryOut _ _ h params) (answer _ h _ _ _))

theorem storeEnded (s : State) (op : StoreOp) (verified : Bool) : GuardedMove s (s.storeEnded op verified) :=
  ite (via (setNvFault _ _) rfl rfl rfl) (via (setNvFault _ _) rfl rfl rfl)

/-! ### Admission -/

theorem takeToShadow {s : State} {i : Slot} {r : Record} (hr : s.record i = some r) (p : RawPart) (l : Link) :
    GuardedMove s (s.takeToShadow i r p l) :=
  (setRecord_from (r := r.accept p.index l) hr fun hk => ⟨hk, rfl⟩).trans ((bump _ _).trans (bump _ _))

theorem overload (s : State) (c : AdmissionCounter) : GuardedMove s (s.overload c) := (bump s _).trans (latch _ _)

theorem storePart {s : State} {i : Slot} {r : Record} (hr : s.record i = some r) (p : RawPart) (l : Link) :
    GuardedMove s (s.storePart i r p l) := by
  unfold State.storePart
  split
  · exact overload s _
  · next chain store _ =>
    have stored : GuardedMove s { s with symbols := store } := of_table rfl rfl rfl
    refine stored.trans (GuardedMove.trans (setRecord_from (q := r) hr ?_) ((bump _ _).trans (completeRecord _ i)))
    split <;> exact fun hk => ⟨hk, rfl⟩

theorem placeFirstPart (s : State) (i : Slot) (p : RawPart) (l : Link) : GuardedMove s (s.placeFirstPart i p l) := by
  unfold State.placeFirstPart
  split
  · exact refl s
  · next r hr => exact ite (takeToShadow hr p l) (storePart hr p l)

theorem not_keyed_initialState (zone : ZoneMode) (now : Instant) {r : Record} (h : r.state = .assembling) :
    ¬ (initialState zone now r).keyed := by
  unfold initialState
  split
  · exact not_keyed_of_shadow rfl
  · split
    · exact not_keyed_of_shadow rfl
    · split
      · split
        · exact not_keyed_of_shadow rfl
        · exact not_keyed_of_assembling h
      · exact not_keyed_of_assembling h

theorem newBatch (s : State) (p : RawPart) (l : Link) : GuardedMove s (s.newBatch p l) := by
  refine ite (bump s _) (ite (bump s _) (ite (bump s _) ?_))
  split
  · exact overload s _
  · next i _ =>
    exact (setRecord_unkeyed (not_keyed_initialState _ _ rfl)).trans ((resolve _ i).trans (placeFirstPart _ i p l))

theorem knownBatch {s : State} {i : Slot} {r : Record} (hr : s.record i = some r) (p : RawPart) (l : Link) :
    GuardedMove s (s.knownBatch i r p l) := by
  refine ite (bump s _) (ite (bump s _) ?_)
  split
  · exact takeToShadow hr p l
  · exact storePart hr p l
  all_goals exact bump s _

theorem takePart (s : State) (l : Link) (body : List Byte) : GuardedMove s (s.takePart l body) := by
  refine ite (bump s _) (ite (bump s _) (ite (bump s _) (ite (bump s _) ?_)))
  split
  · split
    · next hr => exact (knownBatch hr _ l).trans ((settleKeying s _).trans (retireNext s _))
    · exact refl s
  · exact (newBatch s _ l).trans ((settleKeying s _).trans (follow _ _))

theorem takeManage (s : State) (l : Link) (body : List Byte) : GuardedMove s (s.takeManage l body) := by
  refine ite (bump s _) ?_
  dsimp only
  split
  · exact bump s _
  · exact takeRequest s _ _ _

theorem takeFrame (s : State) (l : Link) (body : List Byte) : GuardedMove s (s.takeFrame l body) :=
  ite (takePart s l body) (ite (takeManage s l body) (bump s _))

theorem arbiterChooses (s : State) : GuardedMove s s.arbiterChooses := by
  refine ite (refl s) ?_
  split
  · exact refl s
  · dsimp only
    split
    · exact refl s
    · exact (setLink s _ _).trans (via (takeFrame _ _ _) rfl rfl rfl)

/-! ### The deframer and the reply transmitter -/

theorem deframe (s : State) (l : Link) (d : Deframer) : GuardedMove s (s.deframe l d) := setLink s l _

theorem endLength (s : State) (l : Link) (first second : Byte) : GuardedMove s (s.endLength l first second) :=
  ite (endAttempt s l _) (ite (endAttempt s l _) (deframe s l _))

theorem endFrame (s : State) (l : Link) (body : List Byte) (first second : Byte) :
    GuardedMove s (s.endFrame l body first second) :=
  ite (endAttempt s l _) (ite (endAttempt s l _)
    ((endAttempt s l .good).trans ((setLink _ l _).trans (arbiterChooses _))))

theorem receiveByte (s : State) (l : Link) (b : Byte) : GuardedMove s (s.receiveByte l b) := by
  unfold State.receiveByte
  split
  · exact ite (deframe s l _) (refl s)
  · exact deframe s l _
  · exact endLength s l _ b
  · exact ite (deframe s l _) (deframe s l _)
  · exact deframe s l _
  · exact endFrame s l _ _ b

/-- A reply queue begins its head frame, and a READ that waits for a place there starts its stall timer again. -/
theorem begin_and_unstall (s : State) (l : Link) :
    GuardedMove s (match (s.setLink l (s.link l).beginReply).engine with
      | .reading op =>
        if op.handed.link = l then
          { s.setLink l (s.link l).beginReply with engine := .reading { op with stall := 0 } }
        else s.setLink l (s.link l).beginReply
      | _ => s.setLink l (s.link l).beginReply) := by
  have begun := setLink s l (s.link l).beginReply
  split
  · exact ite (begun.trans (of_table rfl rfl rfl)) begun
  · exact begun

theorem replyGone (s : State) (l : Link) : GuardedMove s (s.replyGone l) := by
  refine GuardedMove.trans ?_ (begin_and_unstall _ l)
  have gone : ∀ c, GuardedMove s ((s.setLink l c).bump (.link l .repliesSent)) := fun c =>
    (setLink s l c).trans (bump _ _)
  split
  · exact gone _
  · exact (gone _).trans (ite (applyRate _ l _) (setLink _ l _))

end GuardedMove

end Sys2Proof.Machine
end

section
/-! SUPPORT. What a step does to the site time unit: the commands that touch it or the TXRDY pin, each by its own law, and every
other command a guarded move. The laws of the whole machine on U, on the clock and on keying follow. -/

namespace Sys2Proof.Machine

/-! ### The commands, by what they touch -/

/-- The commands that touch the site time unit or the TXRDY pin. -/
def touchesGate : Instr → Bool
  | .coldStart => true
  | .refLost => true
  | .refBack => true
  | .ppsEdge => true
  | .ppsMissing => true
  | .todLeadByte _ => true
  | .todMessage _ _ _ _ => true
  | .secondBoundary => true
  | .txrdyFall => true
  | _ => false

open GuardedMove in
/-- Every command but those is a guarded move. -/
theorem exec_guarded {c : Instr} {s t : State} (hc : touchesGate c = false) (h : exec c s = .next t) :
    GuardedMove s t := by
  match c with
  | .coldStart => cases hc
  | .refLost => cases hc
  | .refBack => cases hc
  | .ppsEdge => cases hc
  | .ppsMissing => cases hc
  | .todLeadByte e => cases hc
  | .todMessage second quality check faults => cases hc
  | .secondBoundary => cases hc
  | .txrdyFall => cases hc
  | .switchEvent => cases h; exact ite (takeSwitch s) (refl s)
  | .leadByte l => cases h; exact receiveByte s l _
  | .frameByte l b => cases h; exact receiveByte s l b
  | .lengthEnd l b => cases h; exact receiveByte s l b
  | .frameEnd l b => cases h; exact receiveByte s l b
  | .badChar l =>
    cases h
    split
    · exact refl s
    · exact endAttempt s l _
  | .gap l => cases h; exact ite (endAttempt s l _) (refl s)
  | .silenceTimeout l => cases h; exact silenceCheck s l
  | .admissionFree => cases h; exact via (arbiterChooses _) rfl rfl rfl
  | .deadline i =>
    cases h
    exact (ite ((deadlineActs s i).trans (settleKeying s _)) (refl s)).trans (retireNext s _)
  | .keptEndWhileLate i =>
    cases h
    exact (ite ((becomeShadow s i _).trans (settleKeying s _)) (refl s)).trans (retireNext s _)
  | .keyUp i => cases h; exact (ite (decideThenNext s i) (refl s)).trans (retireNext s _)
  | .missedLaunch i =>
    cases h
    exact (ite ((becomeShadow s i _).trans (settleKeying s _)) (refl s)).trans (retireNext s _)
  | .retirement i => cases h; exact ite (retireShadow s i) (refl s)
  | .launch =>
    cases h
    split
    · next i due =>
      obtain ⟨_, _, r, there, keying, _⟩ := (State.launchDue_eq_some_iff s i).mp due
      exact startSymbols there (Or.inl keying)
    · exact refl s
  | .pacerCarry => cases h; exact (ite (carry s) (refl s)).trans (retireNext s _)
  | .blockRead =>
    cases h
    refine GuardedMove.trans ?_ (retireNext s _)
    split
    · exact refl s
    · next i r b wanted =>
      obtain ⟨_, there, _⟩ := (State.blockWanted_eq_some_iff s i r b).mp wanted
      exact ite (readOnAir there b) (readBeforeLaunch s i r b)
  | .tailEnd => cases h; exact (ite ((enterIdle s).trans (decideIfDue _)) (refl s)).trans (retireNext s _)
  | .status h' params => cases h; exact takeRequest s _ h' params
  | .read h' params => cases h; exact takeRequest s _ h' params
  | .write h' params => cases h; exact takeRequest s _ h' params
  | .digest h' params => cases h; exact takeRequest s _ h' params
  | .switch h' params => cases h; exact takeRequest s _ h' params
  | .cancelSwitch h' params => cases h; exact takeRequest s _ h' params
  | .store h' params => cases h; exact takeRequest s _ h' params
  | .recall h' params => cases h; exact takeRequest s _ h' params
  | .abort h' params => cases h; exact takeRequest s _ h' params
  | .ackAlarms h' params => cases h; exact takeRequest s _ h' params
  | .clearCounters h' params => cases h; exact takeRequest s _ h' params
  | .setLinkRate h' params => cases h; exact takeRequest s _ h' params
  | .restart h' params => cases h; exact takeRequest s _ h' params
  | .notUnderstood h' code params => cases h; exact takeRequest s code h' params
  | .storeComplete verified =>
    cases h
    split
    · exact (storeEnded s _ verified).trans (answer _ _ _ _ _)
    · exact refl s
  | .readFramePlaced =>
    cases h
    split
    · exact ite (placeReadFrame s _) (refl s)
    · exact refl s
  | .readStall => cases h; exact ite (via (bump _ _) rfl rfl rfl) (refl s)
  | .replySent l => cases h; exact ite (replyGone s l) (refl s)
  | .warmRestart =>
    cases h
    refine ite (ite (of_table rfl rfl rfl) ⟨rfl, rfl, fun i r hr _ => ?_⟩) (refl s)
    rw [State.record_warmRestart] at hr
    cases hr

end Sys2Proof.Machine
end

section
/-! SUPPORT. A step is one command or one beat; and the laws of the whole machine on the site time unit and on keying. -/

namespace Sys2Proof.Machine

/-! ### The cases of a step -/

@[simp] theorem mem_dueIf {p : Bool} {c d : Instr} : c ∈ dueIf p d ↔ p = true ∧ c = d := by
  cases p <;> simp [dueIf]

theorem mem_of_chooseDue {n : Nat} {cs : List Instr} {c : Instr} (h : chooseDue n cs = some c) : c ∈ cs :=
  List.mem_of_getElem? h

/-- A cold start comes from outside alone (R18). -/
theorem State.nextDue_ne_coldStart {s : State} {c : Instr} (h : s.nextDue = some c) : c ≠ .coldStart := by
  have not_due : Instr.coldStart ∉ s.dueEvents := by
    unfold State.dueEvents
    simp
  have not_first : Instr.coldStart ∉ s.firstDue := by
    unfold State.firstDue
    split <;> simp
  rintro rfl
  unfold State.nextDue at h
  have there := mem_of_chooseDue h
  by_cases e : s.firstDue.isEmpty = true
  · rw [if_pos e] at there
    exact not_due there
  · rw [if_neg e] at there
    exact not_first there

/-- A step is one beat, or one command run with some rest of the queue and some count of free values. -/
theorem step_cases {s t : State} (h : step s = .next t) :
    t = s.beat ∨ ∃ c p f, exec c { s with pending := p, free := f } = .next t
      ∧ (c = .coldStart → s.pending.head? = some .coldStart) := by
  unfold step at h
  split at h
  · next c rest hp => exact Or.inr ⟨c, rest, s.free, h, by simp [hp]⟩
  · unfold idleStep at h
    split at h
    · next c due => exact Or.inr ⟨c, s.pending, s.free + 1, h, fun e => absurd e (State.nextDue_ne_coldStart due)⟩
    · cases h
      exact Or.inl rfl

/-! ### The site time unit after each of its operations -/

@[simp] theorem State.setClockState_time (s : State) (c : ClockState) :
    (s.setClockState c).time = { s.time with state := c } := by
  unfold State.setClockState
  split <;> rfl

@[simp] theorem State.enterLocked_time (s : State) :
    s.enterLocked.time = { s.time with
      u := 0, run := 0, outliers := 0, qualityZero := 0, stepPending := false, state := .locked } := by
  simp [State.enterLocked]

@[simp] theorem State.enterLocked_table (s : State) : s.enterLocked.table = s.table := by simp [State.enterLocked]
@[simp] theorem State.enterLocked_keying (s : State) : s.enterLocked.keying = s.keying := by simp [State.enterLocked]

@[simp] theorem State.holdoverFromLocked_time (s : State) :
    s.holdoverFromLocked.time = { s.time with u := 1000, outliers := 0, qualityZero := 0, state := .holdover } := by
  simp [State.holdoverFromLocked]

@[simp] theorem State.holdoverFromLocked_table (s : State) : s.holdoverFromLocked.table = s.table := by
  simp [State.holdoverFromLocked]

@[simp] theorem State.todIgnored_time (s : State) : s.todIgnored.time = { s.time with tod := none } := rfl
@[simp] theorem State.todIgnored_table (s : State) : s.todIgnored.table = s.table := rfl
@[simp] theorem State.todIgnored_keying (s : State) : s.todIgnored.keying = s.keying := rfl

/-- What every edge does besides the clock state: a message still incomplete is counted as ignored, the message for the edge
is consumed, and the PPS count and the spacing restart (R2, R3, R5). -/
theorem State.edgeTaken_eq (s : State) :
    s.edgeTaken = { (if s.time.tod = none then s else s.bump .todFailures) with time := { s.time with
      previous := match s.time.coming with
        | some m => some m.second
        | none => s.time.previous
      coming := none
      tod := none
      pps := some 0
      spacing := if s.time.refPresent then some 0 else none } } := by
  unfold State.edgeTaken
  cases h : s.time.tod with
  | none =>
    simp only [h, Option.isSome_none, Bool.false_eq_true, if_false, if_true] <;> rfl
  | some p => rfl

theorem State.edgeTaken_time (s : State) : s.edgeTaken.time = { s.time with
    previous := match s.time.coming with
      | some m => some m.second
      | none => s.time.previous
    coming := none
    tod := none
    pps := some 0
    spacing := if s.time.refPresent then some 0 else none } := by
  rw [State.edgeTaken_eq]

@[simp] theorem State.edgeTaken_table (s : State) : s.edgeTaken.table = s.table := by
  unfold State.edgeTaken
  cases s.time.tod <;> rfl

@[simp] theorem State.edgeTaken_keying (s : State) : s.edgeTaken.keying = s.keying := by
  unfold State.edgeTaken
  cases s.time.tod <;> rfl

/-! ### The three parts of a record's turn at a step of the clock (R121) -/

/-- The deadline that the step brings due. -/
def stepDeadline (p q : Instant) (s : State) (i : Slot) : State :=
  match s.record i with
  | some r =>
    if r.state = .assembling ∧ r.late = false ∧ dueAtStep p q r.deadline = true then s.deadlineActs i else s
  | none => s

/-- The kept end of a late record that the step brings due. -/
def stepKeptEnd (p q : Instant) (s : State) (i : Slot) : State :=
  match s.record i with
  | some r =>
    if r.state = .assembling ∧ r.late = true ∧ dueAtStep p q r.keptEnd = true then s.becomeShadow i .droppedLate else s
  | none => s

/-- The missed launch or the key-up decision of a READY record. -/
def stepReady (p q : Instant) (s : State) (i : Slot) : State :=
  match s.record i with
  | some r =>
    if r.state = .ready then
      if r.keptLaunch.passed q then s.becomeShadow i .droppedLate
      else if dueAtStep p q r.keptKeyUp = true ∧ s.keyUpDue i = true then s.decideKeyUp i
      else s
    else s
  | none => s

theorem stepRecord_eq (p q : Instant) (s : State) (i : Slot) :
    stepRecord p q s i = stepReady p q (stepKeptEnd p q (stepDeadline p q s i) i) i := rfl

/-! ### The guarded moves of a step of the clock -/

namespace GuardedMove

theorem stepDeadline (p q : Instant) (s : State) (i : Slot) : GuardedMove s (stepDeadline p q s i) := by
  unfold Machine.stepDeadline
  split
  · exact ite (deadlineActs s i) (refl s)
  · exact refl s

theorem stepKeptEnd (p q : Instant) (s : State) (i : Slot) : GuardedMove s (stepKeptEnd p q s i) := by
  unfold Machine.stepKeptEnd
  split
  · exact ite (becomeShadow s i _) (refl s)
  · exact refl s

theorem stepReady (p q : Instant) (s : State) (i : Slot) : GuardedMove s (stepReady p q s i) := by
  unfold Machine.stepReady
  split
  · exact ite (ite (becomeShadow s i _) (ite (decideKeyUp s i) (refl s))) (refl s)
  · exact refl s

theorem stepRecord (p q : Instant) (s : State) (i : Slot) : GuardedMove s (stepRecord p q s i) :=
  ((stepDeadline p q s i).trans (stepKeptEnd p q _ i)).trans (stepReady p q _ i)

theorem stepPass (s : State) (p q : Instant) : GuardedMove s (s.stepPass p q) :=
  ite (refl s) ((foldl (stepRecord p q) _ s).trans (foldl retireShadow _ _))

/-- What follows the setting of the clock at a step: LOCKED is entered, then a guarded move. -/
theorem stepClock (s : State) (second : Word32) :
    GuardedMove ({ s with time := { s.time with clock := ⟨second, 0⟩ } }.enterLocked) (s.stepClock second) :=
  (ite (takeSwitch _) (refl _)).trans (stepPass _ _ _)

end GuardedMove

/-! ### What the edge can do -/

/-- The consistency run after an edge (R7). -/
def TimeUnit.nextRun (t : TimeUnit) : Nat := if t.edgeExtends then t.run + 1 else if t.edgeFixed then 1 else 0

/-- The state with the consistency run counted for an edge that found the unit as `t` (R7, R9). -/
def State.runCounted (s : State) (t : TimeUnit) : State :=
  { s with time := { s.time with
    run := t.nextRun
    stepPending := if t.edgeExtends then s.time.stepPending else false } }

/-- An edge in ACQUIRING, by what the run then counts (R7 to R9). -/
theorem State.edgeAcquiring_eq (s : State) (t : TimeUnit) : s.edgeAcquiring t = match t.coming with
    | none => s.runCounted t
    | some m =>
      if t.nextRun = 0 ∨ t.nextRun < s.store.settings.acqCount then s.runCounted t
      else if t.edgeClean then (s.runCounted t).enterLocked
      else if s.keying.state = .idle then (s.runCounted t).stepClock m.second
      else { s.runCounted t with time := { (s.runCounted t).time with stepPending := true } } := rfl

/-- An edge steps the clock, or it leaves the clock, the table and the sequencer (R5 to R9, R12, R14). -/
theorem State.ppsEdge_cases (s : State) :
    (s.ppsEdge.time.clock = s.time.clock ∧ s.ppsEdge.table = s.table ∧ s.ppsEdge.keying = s.keying)
      ∨ ∃ m u, s.time.coming = some m ∧ s.keying.state = .idle ∧ u.table = s.table ∧ u.keying = s.keying
        ∧ u.time.clock = ⟨m.second, 0⟩ ∧ u.time.state = .locked ∧ GuardedMove u s.ppsEdge := by
  have started : ∀ (t : TimeUnit) (e : Bool), (s.edgeTaken.edgeStarts t e).time.clock = s.time.clock
      ∧ (s.edgeTaken.edgeStarts t e).table = s.table ∧ (s.edgeTaken.edgeStarts t e).keying = s.keying := by
    intro t e
    unfold State.edgeStarts
    split <;> simp [State.edgeTaken_time]
  unfold State.ppsEdge
  dsimp only
  split
  · exact Or.inl (started _ _)
  · have counted : (s.edgeTaken.runCounted s.time).time.clock = s.time.clock
        ∧ (s.edgeTaken.runCounted s.time).table = s.table ∧ (s.edgeTaken.runCounted s.time).keying = s.keying := by
      simp [State.runCounted, State.edgeTaken_time]
    rw [State.edgeAcquiring_eq]
    split
    · exact Or.inl counted
    · next m hm =>
      split
      · exact Or.inl counted
      · split
        · exact Or.inl (by simpa using counted)
        · split
          · next idle =>
            rw [State.edgeTaken_keying] at idle
            refine Or.inr ⟨m, _, hm, idle, ?_, ?_, ?_, ?_, GuardedMove.stepClock _ m.second⟩
            · simpa using counted.2.1
            · simpa using counted.2.2
            all_goals simp
          · exact Or.inl counted
  · refine Or.inl ?_
    unfold State.edgeLocked
    split
    · simp [State.edgeTaken_time]
    · split <;> simp [State.edgeTaken_time]
  · exact Or.inl (started _ _)

end Sys2Proof.Machine
end

section
/-! SUPPORT. One beat written out, what each command of the site time unit leaves alone, and the three laws of the whole
machine: U (R6, R9, R15), the clock (R4, R9, R18), and keying through the gate (R16, R140). -/

namespace Sys2Proof.Machine

/-! ### One beat -/

/-- One advance of the clock, the growth of U at the last tick of a second with it (R4, R15). -/
theorem State.advanceClock_eq (s : State) :
    s.advanceClock = { s with
      time := { s.time with u := if s.time.clock.tick.val = 9999999 then s.time.grownU s.store.settings.holdoverRate
                else s.time.u } }.clockTick := by
  unfold State.advanceClock
  by_cases h : s.time.clock.tick.val = 9999999
  · rw [if_pos (by rw [h]), if_pos h]
    rfl
  · rw [if_neg (by simp only [Config.ticksPerSecond]; omega), if_neg h]

theorem TimeUnit.grownU_eq (t : TimeUnit) (rate : Nat) :
    t.grownU rate = if t.state = .holdover ∨ t.state = .acquiring true then min (t.u + rate) 2147483647 else t.u := by
  unfold TimeUnit.grownU
  split <;> simp [*]

/-- The pacer counts the increment of the current record in SYMBOLS (R142). -/
theorem State.clockTick_eq (s : State) :
    s.clockTick = { s with
      time := { s.time with
        clock := s.time.clock.add 1
        pps := s.time.pps.map (· + 1)
        spacing := s.time.spacing.map (· + 1) }
      pacer := if s.keying.state = .symbols then
          { s.pacer with acc := s.pacer.acc + ((s.keying.current.bind s.record).map (·.inc)).getD 0 }
        else s.pacer
      keying := { s.keying with modstb := false } } := by
  unfold State.clockTick
  cases s.keying.current with
  | none => rfl
  | some i => 
    dsimp only [Option.bind_some]
    cases s.record i <;> rfl

/-- The reference monitor through one beat (R1). -/
theorem TimeUnit.monitorRef_eq (t : TimeUnit) (lo ref : Bool) :
    t.monitorRef lo ref =
      let one := if lo then 1 else 0
      let gap := t.refQuiet + one
      { t with
        refQuiet := if ref then 0 else gap
        refTiming := if t.refPresent then none
          else if 20 < gap then (if ref then some 0 else none)
          else match t.refTiming with
            | some m => some (m + one)
            | none => if ref then some 0 else none } := by
  unfold TimeUnit.monitorRef
  dsimp only
  congr 1
  split
  · rfl
  · by_cases h : 20 < t.refQuiet + (if lo then 1 else 0)
    · rw [if_pos (show Config.refLostPeriods < _ from h), if_pos h]
      cases ref <;> rfl
    · rw [if_neg (show ¬ Config.refLostPeriods < _ from h), if_neg h]
      cases t.refTiming <;> cases ref <;> rfl

/-- The timer of the operation in progress through a beat, an LO cycle in it or not (R37, R72). -/
def State.engineAfter (s : State) (one : Nat) : Engine :=
  match s.engine with
  | .free => .free
  | .storing op => .storing { op with elapsed := op.elapsed + one }
  | .reading op => .reading { op with
      stall := if 4 ≤ (s.link op.handed.link).replies.length then op.stall + one else op.stall }

theorem State.beatEngine_eq (s : State) : s.beatEngine = s.engineAfter 1 := by
  unfold State.beatEngine State.engineAfter
  cases s.engine with
  | free => rfl
  | storing op => rfl
  | reading op =>
    dsimp only
    by_cases h : 4 ≤ (s.link op.handed.link).replies.length
    · rw [if_pos h, if_neg (by simpa [State.hasPlace] using h)]
    · rw [if_neg h, if_pos (by simpa [State.hasPlace] using h)]

theorem State.engineAfter_zero (s : State) : s.engineAfter 0 = s.engine := by
  unfold State.engineAfter
  cases s.engine <;> simp

/-- The timers of a link through a beat (R65, R67). -/
def CarriageLink.after (c : CarriageLink) (lo idle : Bool) : CarriageLink :=
  { c with
    gapTimer := if lo = true ∧ idle = true then c.gapTimer.map (fun g => { g with elapsed := g.elapsed + 1 })
      else c.gapTimer
    silence := if lo = true ∧ c.up = true then c.silence + 1 else c.silence }

theorem CarriageLink.after_lo (c : CarriageLink) (idle : Bool) : c.after true idle = c.beat idle := by
  simp [CarriageLink.after, CarriageLink.beat]

theorem CarriageLink.after_still (c : CarriageLink) (idle : Bool) : c.after false idle = c := by
  simp [CarriageLink.after]

theorem State.beatTimers_eq (s : State) (lo ref : Bool) :
    s.beatTimers lo ref = { s with
      time := s.time.monitorRef lo ref
      linkA := s.linkA.after lo (Config.lineIdle s.free false)
      linkB := s.linkB.after lo (Config.lineIdle s.free true)
      engine := s.engineAfter (if lo then 1 else 0) } := by
  unfold State.beatTimers
  cases lo with
  | false => simp [CarriageLink.after_still, State.engineAfter_zero]
  | true =>
    simp only [if_true, CarriageLink.after_lo, State.beatEngine_eq]
    rfl

theorem State.outsideBeat_eq (s : State) (n : Nat) :
    s.outsideBeat n = { s with
      keying := { s.keying with txrdy := s.keying.txrdy || Config.txrdyRises n }
      symbols := match Config.disturbance n with
        | none => s.symbols
        | some (a, v) => { s.symbols with memory := s.symbols.memory.write a.val v } } := by
  unfold State.outsideBeat
  cases Config.disturbance n <;> rfl

/-- What one beat changes (log 1, log 6). -/
theorem State.beat_eq (s : State) :
    s.beat =
      let n := s.free
      let lo := Config.loCycle n
      let ref := Config.refEdge n
      let one := if lo then 1 else 0
      let ticks := if s.time.refPresent then ref else lo
      let gap := s.time.refQuiet + one
      { s with
        time := { s.time with
          clock := if ticks then s.time.clock.add 1 else s.time.clock
          u := if ticks = true ∧ s.time.clock.tick.val = 9999999
                ∧ (s.time.state = .holdover ∨ s.time.state = .acquiring true) then
              min (s.time.u + s.store.settings.holdoverRate) 2147483647
            else s.time.u
          pps := if ticks then s.time.pps.map (· + 1) else s.time.pps
          spacing := if ticks then s.time.spacing.map (· + 1) else s.time.spacing
          refQuiet := if ref then 0 else gap
          refTiming := if s.time.refPresent then none
            else if 20 < gap then (if ref then some 0 else none)
            else match s.time.refTiming with
              | some m => some (m + one)
              | none => if ref then some 0 else none }
        linkA := s.linkA.after lo (Config.lineIdle n false)
        linkB := s.linkB.after lo (Config.lineIdle n true)
        engine := s.engineAfter one
        keying := { s.keying with
          modstb := if ticks then false else s.keying.modstb
          txrdy := s.keying.txrdy || Config.txrdyRises n }
        pacer := if ticks = true ∧ s.keying.state = .symbols then
            { s.pacer with acc := s.pacer.acc + ((s.keying.current.bind s.record).map (·.inc)).getD 0 }
          else s.pacer
        symbols := match Config.disturbance n with
          | none => s.symbols
          | some (a, v) => { s.symbols with memory := s.symbols.memory.write a.val v }
        free := n + 1 } := by
  unfold State.beat TimeUnit.clockAdvances
  dsimp only
  rw [State.outsideBeat_eq, State.beatTimers_eq, TimeUnit.monitorRef_eq]
  cases (if s.time.refPresent then Config.refEdge s.free else Config.loCycle s.free)
  · simp only [Bool.false_eq_true, if_false, false_and]
  · simp only [if_true, true_and, State.advanceClock_eq, State.clockTick_eq, TimeUnit.grownU_eq, ite_and]
    rfl

end Sys2Proof.Machine
end

section
/-! SUPPORT. The commands that touch the site time unit, each by what it leaves alone and by what it does to U; and the three
laws of the whole machine: U (R6, R9, R15), the clock (R4, R9, R18), and keying through the gate (R16, R140). -/

namespace Sys2Proof.Machine

/-! ### The commands of the site time unit leave the table and the clock -/

/-- A move of the site time unit that leaves its clock and the batch table. -/
def StandsStill (s t : State) : Prop := t.table = s.table ∧ t.time.clock = s.time.clock

namespace StandsStill

theorem refl (s : State) : StandsStill s s := ⟨rfl, rfl⟩

theorem trans {s u t : State} (h : StandsStill s u) (h' : StandsStill u t) : StandsStill s t :=
  ⟨h'.1.trans h.1, h'.2.trans h.2⟩

theorem ite {s t u : State} {p : Prop} [Decidable p] (ht : StandsStill s t) (hu : StandsStill s u) :
    StandsStill s (if p then t else u) := by
  split
  · exact ht
  · exact hu

theorem holdoverFromLocked (s : State) : StandsStill s s.holdoverFromLocked := by simp [StandsStill]

theorem referenceLost (s : State) : StandsStill s s.referenceLost := by
  unfold State.referenceLost
  split
  · exact refl s
  · exact ⟨by simp, by simp⟩
  · exact ⟨rfl, rfl⟩
  · exact holdoverFromLocked s
  · exact refl s

theorem qualityRun (s : State) (fix : Bool) : StandsStill s (s.qualityRun fix) :=
  ite ⟨rfl, rfl⟩ (ite (ite (holdoverFromLocked s) ⟨rfl, rfl⟩) (refl s))

theorem todComplete (s : State) (bytes : List Byte) (faulty : Bool) : StandsStill s (s.todComplete bytes faulty) :=
  ite (trans ⟨rfl, rfl⟩ (qualityRun _ _)) ⟨rfl, rfl⟩

theorem todByte (s : State) (b : Byte) (e : Bool) : StandsStill s (s.todByte b e) := by
  unfold State.todByte
  split
  · exact ite ⟨rfl, rfl⟩ (refl s)
  · exact ite ⟨rfl, rfl⟩ (todComplete s _ _)

end StandsStill

/-- What holds of a state and is kept by every byte on the TOD line holds after a whole message. -/
theorem todMessage_keeps {P : State → Prop} (hP : ∀ s b e, P s → P (s.todByte b e)) {s t : State} (hs : P s)
    {second : Word32} {quality check : Byte} {faults : BitVec 6}
    (h : exec (.todMessage second quality check faults) s = .next t) : P t := by
  cases h
  exact List.foldlRecOn _ _ hs fun u hu _ _ => hP u _ _ hu

/-- What a command that touches the gate can do to the table and to the clock. -/
theorem exec_touching {c : Instr} {s t : State} (hc : touchesGate c = true) (h : exec c s = .next t) :
    (c = .coldStart ∧ t = s.coldStart) ∨ (c = .ppsEdge ∧ t = s.ppsEdge)
      ∨ (t.table = s.table ∧ (t.time.clock = s.time.clock ∨ t.time.clock = s.time.clock.add 1)) := by
  have still : StandsStill s t → t.table = s.table ∧ (t.time.clock = s.time.clock
      ∨ t.time.clock = s.time.clock.add 1) := fun ⟨table, clock⟩ => ⟨table, Or.inl clock⟩
  cases c with
  | coldStart => cases h; exact Or.inl ⟨rfl, rfl⟩
  | ppsEdge => cases h; exact Or.inr (Or.inl ⟨rfl, rfl⟩)
  | refLost =>
    cases h
    exact Or.inr (Or.inr (still (.ite (.trans ⟨rfl, rfl⟩ (.referenceLost _)) (.refl s))))
  | refBack => cases h; exact Or.inr (Or.inr (still (.ite ⟨rfl, rfl⟩ (.refl s))))
  | ppsMissing =>
    cases h
    exact Or.inr (Or.inr (still (.ite (.trans ⟨rfl, rfl⟩ (.referenceLost _)) (.refl s))))
  | todLeadByte e => cases h; exact Or.inr (Or.inr (still (.todByte s _ e)))
  | todMessage second quality check faults =>
    exact Or.inr (Or.inr (still (todMessage_keeps (P := StandsStill s) (fun u b e hu => hu.trans (.todByte u b e))
      (.refl s) h)))
  | secondBoundary =>
    cases h
    refine Or.inr (Or.inr ?_)
    split
    · exact ⟨rfl, Or.inr rfl⟩
    · exact ⟨rfl, Or.inl rfl⟩
  | txrdyFall =>
    cases h
    exact Or.inr (Or.inr (still (.ite (.ite ⟨rfl, rfl⟩ ⟨rfl, rfl⟩) (.refl s))))
  | _ => cases hc

/-! ### The clock -/

/-- A beat ticks the clock or leaves it (R4). -/
theorem State.beat_clock (s : State) : s.beat.time.clock = s.time.clock ∨ s.beat.time.clock = s.time.clock.add 1 := by
  rw [State.beat_eq]
  dsimp only
  cases (if s.time.refPresent then Config.refEdge s.free else Config.loCycle s.free)
  · exact Or.inl rfl
  · exact Or.inr rfl

/-- A beat leaves U or is a second boundary (R15). -/
theorem State.beat_u (s : State) :
    s.beat.time.u = s.time.u ∨ s.beat.time.u = s.time.grownU s.store.settings.holdoverRate := by
  rw [State.beat_eq, TimeUnit.grownU_eq]
  dsimp only
  by_cases growing : s.time.state = .holdover ∨ s.time.state = .acquiring true
  · rw [if_pos growing]
    exact (ite_eq_or_eq _ _ _).symm
  · rw [if_neg growing, if_neg fun h => growing h.2.2]
    exact Or.inl rfl

/-- Settles O12: a beat and the second boundary tick the clock, an edge steps it, and every other command leaves it. -/
theorem clockMovesByTickOrStep : Obligations.ClockMovesByTickOrStep := by
  unfold Obligations.ClockMovesByTickOrStep
  intro s t h
  rcases step_cases h with rfl | ⟨c, p, f, hexec, cold⟩
  · exact s.beat_clock.elim Or.inl fun ticked => Or.inr (Or.inl ticked)
  cases hc : touchesGate c with
  | false => exact Or.inl (congrArg TimeUnit.clock (exec_guarded hc hexec).time)
  | true =>
    rcases exec_touching hc hexec with ⟨rfl, rfl⟩ | ⟨rfl, rfl⟩ | ⟨-, same | ticked⟩
    · exact Or.inr (Or.inr (Or.inr ⟨cold rfl, rfl, rfl⟩))
    · rcases State.ppsEdge_cases { s with pending := p, free := f } with
        ⟨same, -⟩ | ⟨m, u, coming, idle, -, -, clock, locked, move⟩
      · exact Or.inl same
      · exact Or.inr (Or.inr (Or.inl ⟨idle, by rw [move.time, locked], m, coming, by rw [move.time, clock]⟩))
    · exact Or.inl same
    · exact Or.inr (Or.inl ticked)

/-! ### Keying -/

/-- What every command but those of the site time unit and of TXRDY does, a step does: it keys no record but through the gate
(R16, R140). -/
theorem step_keyedByGate {s t : State} (h : step s = .next t) : KeyedByGate s t := by
  have same_table : ∀ {u : State}, u.table = s.table → KeyedByGate s u := fun hu =>
    KeyedByGate.of_records fun i => State.record_of_table _ s i hu
  rcases step_cases h with rfl | ⟨c, p, f, hexec, -⟩
  · exact same_table (by rw [State.beat_eq])
  cases hc : touchesGate c with
  | false => exact (exec_guarded hc hexec).keyed
  | true =>
    rcases exec_touching hc hexec with ⟨-, rfl⟩ | ⟨-, rfl⟩ | ⟨table, -⟩
    · intro i r hr
      rw [State.record_coldStart] at hr
      cases hr
    · rcases State.ppsEdge_cases { s with pending := p, free := f } with
        ⟨-, table, -⟩ | ⟨m, u, -, -, table, -, -, -, move⟩
      · exact same_table table
      · exact (same_table table).before move
    · exact same_table table

/-- Settles O11, by the guarded moves of every operation. -/
theorem keyedOnlyThroughAnOpenGate : Obligations.KeyedOnlyThroughAnOpenGate := by
  unfold Obligations.KeyedOnlyThroughAnOpenGate
  intro s t i r h hr hk new
  rcases step_keyedByGate h i r hr hk with ⟨q, hq, hqk, -⟩ | passed
  · exact absurd hqk (new q hq)
  · exact passed

/-! ### The holdover uncertainty -/

namespace UncertaintySound

/-- The law reads five fields of the site time unit. -/
theorem of_fields {s t : State} (hs : UncertaintySound s) (state : t.time.state = s.time.state)
    (u : t.time.u = s.time.u) (pending : t.time.stepPending = true → s.time.stepPending = true)
    (outliers : t.time.outliers = s.time.outliers)
    (quality : t.time.qualityZero = s.time.qualityZero ∨ t.time.qualityZero = 0) : UncertaintySound t where
  zero h := by rw [u]; exact hs.zero (by rwa [state] at h)
  saturated := by rw [u]; exact hs.saturated
  stepping h := by rw [state]; exact hs.stepping (pending h)
  unset h := by
    obtain ⟨ho, hq⟩ := hs.unset (by rwa [state] at h)
    exact ⟨by rw [outliers, ho], quality.elim (fun e => by rw [e, hq]) id⟩

/-- A unit in LOCKED or HOLDOVER has no step pending (R9). -/
theorem not_pending {s : State} (hs : UncertaintySound s) (h : ∀ e, s.time.state ≠ .acquiring e) :
    s.time.stepPending = false := by
  cases hp : s.time.stepPending with
  | false => rfl
  | true =>
    obtain ⟨e, he⟩ := hs.stepping hp
    exact absurd he (h e)

/-- A unit in HOLDOVER with no step pending. -/
theorem of_holdover {t : State} (state : t.time.state = .holdover) (u : t.time.u ≤ Config.maxU)
    (pending : t.time.stepPending = false) : UncertaintySound t where
  zero h := by simp [state] at h
  saturated := u
  stepping h := by simp [pending] at h
  unset h := by simp [state] at h

/-- A unit in ACQUIRING, U 0 where there is no estimate. -/
theorem of_acquiring {t : State} {e : Bool} (state : t.time.state = .acquiring e) (u : t.time.u ≤ Config.maxU)
    (zero : e = false → t.time.u = 0) : UncertaintySound t where
  zero h := zero (by simpa [state] using h)
  saturated := u
  stepping _ := ⟨e, state⟩
  unset h := by simp [state] at h

/-- A unit in LOCKED with U 0 and no step pending. -/
theorem of_locked {t : State} (state : t.time.state = .locked) (u : t.time.u = 0)
    (pending : t.time.stepPending = false) : UncertaintySound t where
  zero _ := u
  saturated := by simp [u]
  stepping h := by simp [pending] at h
  unset h := by simp [state] at h

theorem of_guarded {s t : State} (hs : UncertaintySound s) (h : GuardedMove s t) : UncertaintySound t :=
  hs.of_fields (by rw [h.time]) (by rw [h.time]) (by rw [h.time]; exact id) (by rw [h.time]) (by rw [h.time]; exact Or.inl rfl)

theorem ite {t u : State} {p : Prop} [Decidable p] (ht : UncertaintySound t) (hu : UncertaintySound u) :
    UncertaintySound (if p then t else u) := by
  split
  · exact ht
  · exact hu

theorem holdoverFromLocked {s : State} (hs : UncertaintySound s) (h : s.time.state = .locked) :
    UncertaintySound s.holdoverFromLocked :=
  of_holdover (by simp) (by simp [Config.maxU]) (by simpa using hs.not_pending (by simp [h]))

theorem referenceLost {s : State} (hs : UncertaintySound s) : UncertaintySound s.referenceLost := by
  unfold State.referenceLost
  split
  · exact hs
  · exact of_holdover (by simp) (by simpa using hs.saturated) (by simp)
  · exact hs.of_fields rfl rfl nofun rfl (Or.inl rfl)
  · next h => exact hs.holdoverFromLocked h
  · exact hs

theorem qualityRun {s : State} (hs : UncertaintySound s) (fix : Bool) : UncertaintySound (s.qualityRun fix) := by
  refine ite (hs.of_fields rfl rfl id rfl (Or.inr rfl)) ?_
  split
  · next locked =>
    refine ite (hs.holdoverFromLocked locked) (of_locked locked (hs.zero (by simp [locked])) ?_)
    exact hs.not_pending (by simp [locked])
  · exact hs

theorem todByte {s : State} (hs : UncertaintySound s) (b : Byte) (e : Bool) : UncertaintySound (s.todByte b e) := by
  unfold State.todByte
  split
  · exact ite (hs.of_fields rfl rfl id rfl (Or.inl rfl)) hs
  · refine ite (hs.of_fields rfl rfl id rfl (Or.inl rfl)) (ite (qualityRun ?_ _) ?_) <;>
      exact hs.of_fields rfl rfl id rfl (Or.inl rfl)

theorem edgeTaken {s : State} (hs : UncertaintySound s) : UncertaintySound s.edgeTaken :=
  hs.of_fields (by simp [State.edgeTaken_time]) (by simp [State.edgeTaken_time]) (by simp [State.edgeTaken_time])
    (by simp [State.edgeTaken_time]) (Or.inl (by simp [State.edgeTaken_time]))

theorem enterLocked (s : State) : UncertaintySound s.enterLocked := of_locked (by simp) (by simp) (by simp)

theorem edgeStarts {s : State} (hs : UncertaintySound s) (t : TimeUnit) {e : Bool}
    (h : e = false → s.time.state = .unset) : UncertaintySound (s.edgeStarts t e) := by
  refine ite (of_acquiring (e := e) (by simp) (by simpa using hs.saturated) fun he => ?_) hs
  simpa using hs.zero (Or.inl (h he))

theorem edgeAcquiring {s : State} (hs : UncertaintySound s) {e : Bool} (h : s.time.state = .acquiring e)
    (t : TimeUnit) : UncertaintySound (s.edgeAcquiring t) := by
  have counted : ∀ p, UncertaintySound { s.runCounted t with time := { (s.runCounted t).time with stepPending := p } } :=
    fun p => of_acquiring h hs.saturated fun he => hs.zero (Or.inr (Or.inl (by rw [h, he])))
  rw [State.edgeAcquiring_eq]
  split
  · exact counted _
  · exact ite (counted _) (ite (enterLocked _) (ite ((enterLocked _).of_guarded (.stepClock _ _)) (counted _)))

theorem edgeLocked {s : State} (hs : UncertaintySound s) (h : s.time.state = .locked) (t : TimeUnit) :
    UncertaintySound (s.edgeLocked t) := by
  have still : ∀ n, UncertaintySound { s with time := { s.time with outliers := n } } := fun n =>
    of_locked h (hs.zero (by simp [h])) (hs.not_pending (by simp [h]))
  exact ite (still _) (ite (of_acquiring (e := true) (by simp) (by simp) nofun) (still _))

theorem ppsEdge {s : State} (hs : UncertaintySound s) : UncertaintySound s.ppsEdge := by
  have taken := hs.edgeTaken
  have state : s.edgeTaken.time.state = s.time.state := by simp [State.edgeTaken_time]
  unfold State.ppsEdge
  dsimp only
  split
  · next h => exact taken.edgeStarts _ fun _ => state.trans h
  · next h => exact taken.edgeAcquiring (state.trans h) _
  · next h => exact taken.edgeLocked (state.trans h) _
  · exact taken.edgeStarts _ nofun

/-- U grown by a rate, or left (R15). -/
theorem grown {s t : State} (hs : UncertaintySound s) (rate : Nat) (state : t.time.state = s.time.state)
    (u : t.time.u = s.time.u ∨ t.time.u = s.time.grownU rate) (pending : t.time.stepPending = s.time.stepPending)
    (outliers : t.time.outliers = s.time.outliers) (quality : t.time.qualityZero = s.time.qualityZero) :
    UncertaintySound t := by
  by_cases growing : s.time.state = .holdover ∨ s.time.state = .acquiring true
  · have bounded : t.time.u ≤ Config.maxU := by
      rcases u with u | u
      · rw [u]
        exact hs.saturated
      · rw [u, TimeUnit.grownU_eq, if_pos growing]
        exact min_le_right _ _
    rcases growing with h | h
    · exact of_holdover (state.trans h) bounded (pending.trans (hs.not_pending (by simp [h])))
    · exact of_acquiring (state.trans h) bounded nofun
  · rw [TimeUnit.grownU_eq, if_neg growing, or_self] at u
    exact hs.of_fields state u (by rw [pending]; exact id) outliers (Or.inl quality)

theorem beat {s : State} (hs : UncertaintySound s) : UncertaintySound s.beat := by
  refine hs.grown s.store.settings.holdoverRate ?_ s.beat_u ?_ ?_ ?_ <;> rw [State.beat_eq]

/-- Every command keeps the law of U. -/
theorem exec {c : Instr} {s t : State} (hs : UncertaintySound s) (h : Machine.exec c s = .next t) :
    UncertaintySound t := by
  cases hc : touchesGate c with
  | false => exact hs.of_guarded (exec_guarded hc h)
  | true =>
    have unread : ∀ {u : State}, u.time.state = s.time.state → u.time.u = s.time.u →
        u.time.stepPending = s.time.stepPending → u.time.outliers = s.time.outliers →
        u.time.qualityZero = s.time.qualityZero → UncertaintySound u := fun a b c d e =>
      hs.of_fields a b (by rw [c]; exact id) d (Or.inl e)
    cases c with
    | coldStart =>
      cases h
      exact ⟨fun _ => rfl, Nat.zero_le _, nofun, fun _ => ⟨rfl, rfl⟩⟩
    | refLost => cases h; exact ite (referenceLost (unread rfl rfl rfl rfl rfl)) hs
    | refBack => cases h; exact ite (unread rfl rfl rfl rfl rfl) hs
    | ppsEdge => cases h; exact hs.ppsEdge
    | ppsMissing => cases h; exact ite (referenceLost (unread rfl rfl rfl rfl rfl)) hs
    | todLeadByte e => cases h; exact hs.todByte _ e
    | todMessage second quality check faults => exact todMessage_keeps (fun u b e hu => hu.todByte b e) hs h
    | secondBoundary =>
      cases h
      exact ite (hs.grown s.store.settings.holdoverRate rfl (Or.inr rfl) rfl rfl rfl) hs
    | txrdyFall =>
      cases h
      exact ite (ite (unread rfl rfl rfl rfl rfl) (unread rfl rfl rfl rfl rfl)) hs
    | _ => cases hc

end UncertaintySound

/-- Settles O7: a beat and every command keep the law. -/
theorem everyStepKeepsUncertaintySound : Obligations.EveryStepKeepsUncertaintySound := by
  unfold Obligations.EveryStepKeepsUncertaintySound
  intro s t hs h
  rcases step_cases h with rfl | ⟨c, p, f, hexec, -⟩
  · exact hs.beat
  · have here : UncertaintySound { s with pending := p, free := f } := hs.of_fields rfl rfl id rfl (Or.inl rfl)
    exact here.exec hexec

end Sys2Proof.Machine
end

section
/-! SUPPORT. The cause of each event as the rules word it, and the idle step (log 1). -/

namespace Sys2Proof.Machine

/-! ### The causes -/

theorem Instant.not_passed_iff (x now : Instant) : x.passed now = false ↔ 0 ≤ x.diff now := by
  rw [← Bool.not_eq_true, Instant.passed_iff, not_lt]

/-- A pending switch is due under a clock that may be trusted (R34). -/
theorem State.switchDue_iff (s : State) :
    s.switchDue = true ↔ s.time.state ≠ .unset ∧ s.time.state ≠ .acquiring false
      ∧ ∃ p, s.store.pending = some p ∧ Instant.diff ⟨p.second, 0⟩ s.time.clock ≤ 0 := by
  unfold State.switchDue
  cases s.store.pending <;> simp [Instant.reached_iff, and_assoc]

theorem State.refLostDue_iff (s : State) :
    s.refLostDue = true ↔ s.time.refPresent = true ∧ 20 ≤ s.time.refQuiet := by
  simp [State.refLostDue, Config.refLostPeriods]

theorem State.refBackDue_iff (s : State) :
    s.refBackDue = true ↔ s.time.refPresent = false ∧ ∃ n, s.time.refTiming = some n ∧ 1000000 ≤ n := by
  unfold State.refBackDue
  cases s.time.refTiming <;> simp [Config.refBackPeriods]

theorem State.ppsMissingDue_iff (s : State) :
    s.ppsMissingDue = true ↔ ∃ n, s.time.pps = some n ∧ 15000000 ≤ n := by
  unfold State.ppsMissingDue
  cases s.time.pps <;> simp [Config.ppsMissingTicks]

theorem State.gapDue_iff (s : State) (l : Link) :
    s.gapDue l = true ↔ ∃ g, (s.link l).gapTimer = some g ∧ g.limit < g.elapsed := by
  unfold State.gapDue
  cases (s.link l).gapTimer <;> simp

theorem State.deadlineDue_iff (s : State) (i : Slot) :
    s.deadlineDue i = true ↔ ∃ r, s.record i = some r ∧ r.state = .assembling ∧ r.late = false
      ∧ r.deadline.diff s.time.clock ≤ 0 := by
  unfold State.deadlineDue
  cases s.record i <;> simp [Instant.reached_iff, and_assoc]

theorem State.keptEndDue_iff (s : State) (i : Slot) :
    s.keptEndDue i = true ↔ ∃ r, s.record i = some r ∧ r.state = .assembling ∧ r.late = true
      ∧ (r.launch.add (ticksOf r.inc r.k)).diff s.time.clock ≤ 0 := by
  unfold State.keptEndDue
  cases s.record i <;> simp [Instant.reached_iff, Record.keptEnd, and_assoc]

theorem State.launchMissed_iff (s : State) (i : Slot) :
    s.launchMissed i = true ↔ ∃ r, s.record i = some r ∧ r.state = .ready
      ∧ (r.launch.add (ticksOf r.inc r.j)).diff s.time.clock < 0 := by
  unfold State.launchMissed
  cases s.record i <;> simp [Instant.passed_iff, Record.keptLaunch]

theorem State.retirementDue_iff (s : State) (i : Slot) :
    s.retirementDue i = true ↔ ∃ r, s.record i = some r ∧ r.state = .shadow
      ∧ (r.nominalEnd.add s.store.settings.guard).diff s.time.clock ≤ 0 := by
  unfold State.retirementDue
  cases s.record i <;> simp [Instant.reached_iff, Record.widenedEnd]

/-- A kept key-up has come due and the kept launch has not passed (R113, R139). -/
theorem State.keyUpReached_iff (s : State) (i : Slot) :
    s.keyUpReached i = true ↔ ∃ r, s.record i = some r ∧ r.state = .ready ∧ r.keptKeyUp.diff s.time.clock ≤ 0
      ∧ 0 ≤ (r.launch.add (ticksOf r.inc r.j)).diff s.time.clock := by
  unfold State.keyUpReached
  cases s.record i <;> simp [Instant.reached_iff, Instant.not_passed_iff, Record.keptLaunch, and_assoc]

theorem State.canDecide_iff (s : State) (i : Slot) :
    s.canDecide i = true ↔ s.keying.state = .idle ∨ s.keying.state = .tail
      ∨ (s.keying.state = .hold ∧ s.keying.bridged = some i ∧ s.keying.current = none) := by
  unfold State.canDecide
  cases s.keying.state <;> simp

/-- A key-up decision is due (R113, R137, R139, R145). -/
theorem State.keyUpDue_iff (s : State) (i : Slot) :
    s.keyUpDue i = true ↔ ∃ r, s.record i = some r ∧ r.state = .ready ∧ r.keptKeyUp.diff s.time.clock ≤ 0
      ∧ 0 ≤ (r.launch.add (ticksOf r.inc r.j)).diff s.time.clock ∧ s.headReady = some i
      ∧ (s.keying.state = .idle ∨ s.keying.state = .tail
        ∨ (s.keying.state = .hold ∧ s.keying.bridged = some i ∧ s.keying.current = none)) := by
  simp only [State.keyUpDue, Bool.and_eq_true, decide_eq_true_eq, State.keyUpReached_iff, State.canDecide_iff]
  constructor
  · rintro ⟨⟨⟨r, hr, ready, due, ahead⟩, decides⟩, head⟩
    exact ⟨r, hr, ready, due, ahead, head, decides⟩
  · rintro ⟨r, hr, ready, due, ahead, head, decides⟩
    exact ⟨⟨⟨r, hr, ready, due, ahead⟩, decides⟩, head⟩

theorem State.carryDue_iff (s : State) :
    s.carryDue = true ↔ s.keying.state = .symbols ∧ 4294967296 ≤ s.pacer.acc := by
  simp [State.carryDue]

theorem State.tailDone_iff (s : State) :
    s.tailDone = true ↔ s.keying.state = .tail ∧ ∃ x, s.keying.tailEnd = some x ∧ x.diff s.time.clock ≤ 0 := by
  unfold State.tailDone
  cases s.keying.state <;> cases s.keying.tailEnd <;> simp [Instant.reached_iff]

theorem State.readFrameDue_iff (s : State) :
    s.readFrameDue = true ↔ ∃ op, s.engine = .reading op ∧ (s.link op.handed.link).replies.length < 4 := by
  unfold State.readFrameDue
  cases s.engine <;> simp [State.hasPlace, Config.replyPlaces]

theorem State.readStallDue_iff (s : State) :
    s.readStallDue = true ↔ ∃ op, s.engine = .reading op ∧ 4 ≤ (s.link op.handed.link).replies.length
      ∧ 20000000 ≤ op.stall := by
  unfold State.readStallDue
  cases s.engine <;> simp [State.hasPlace, Config.replyPlaces, Config.stallPeriods]

theorem State.storeDue_iff (s : State) :
    s.storeDue = true ↔ ∃ op, s.engine = .storing op
      ∧ (Config.storeEnds s.free = true ∨ 4000000 ≤ op.elapsed) := by
  unfold State.storeDue
  cases s.engine <;> simp [Config.storePeriods]

theorem State.replyDue_iff (s : State) (l : Link) :
    s.replyDue l = true ↔ (s.link l).sending ≠ none ∧ Config.replyEnds s.free (decide (l = .b)) = true := by
  simp [State.replyDue, Option.isSome_iff_ne_none]

/-- The block read is due for the current record, on the air or before its launch (R103, R141). -/
theorem State.blockWanted_isSome_iff (s : State) :
    s.blockWanted.isSome = true ↔ ∃ i r, s.record i = some r ∧ s.keying.current = some i
      ∧ ((s.keying.state = .symbols ∧ r.state = .onAir ∧ s.pacer.symbol % 256 = 255
          ∧ 256 * (s.pacer.symbol / 256 + 1) < r.k ∧ r.stop = none
          ∧ s.pacer.next.map (·.index) ≠ some (s.pacer.symbol / 256 + 1))
        ∨ (r.state = .keying ∧ s.pacer.block.map (·.index) ≠ some (r.j / 256))) := by
  rw [Option.isSome_iff_exists]
  constructor
  · rintro ⟨⟨i, r, b⟩, h⟩
    obtain ⟨hc, hr, ⟨air, symbols, rfl, last, more, stop, next⟩ | ⟨keying, rfl, block⟩⟩ :=
      (s.blockWanted_eq_some_iff i r b).mp h
    · exact ⟨i, r, hr, hc, Or.inl ⟨symbols, air, last, more, stop, next⟩⟩
    · exact ⟨i, r, hr, hc, Or.inr ⟨keying, block⟩⟩
  · rintro ⟨i, r, hr, hc, ⟨symbols, air, last, more, stop, next⟩ | ⟨keying, block⟩⟩
    · exact ⟨_, (s.blockWanted_eq_some_iff i r _).mpr
        ⟨hc, hr, Or.inl ⟨air, symbols, rfl, last, more, stop, next⟩⟩⟩
    · exact ⟨_, (s.blockWanted_eq_some_iff i r _).mpr ⟨hc, hr, Or.inr ⟨keying, rfl, block⟩⟩⟩

theorem State.launchDue_isSome_iff (s : State) :
    s.launchDue.isSome = true ↔ ∃ i r, s.record i = some r ∧ s.keying.current = some i
      ∧ (s.keying.state = .lead ∨ s.keying.state = .hold) ∧ r.state = .keying
      ∧ (r.launch.add (ticksOf r.inc r.j)).diff s.time.clock ≤ 0 := by
  rw [Option.isSome_iff_exists]
  simp only [State.launchDue_eq_some_iff, Record.keptLaunch]
  constructor
  · rintro ⟨i, hc, hk, r, hr, keying, due⟩
    exact ⟨i, r, hr, hc, hk, keying, due⟩
  · rintro ⟨i, r, hr, hc, hk, keying, due⟩
    exact ⟨i, hc, hk, r, hr, keying, due⟩

/-! ### The choice among the events due -/

@[simp] theorem mem_allSlots (i : Slot) : i ∈ allSlots := List.mem_finRange i

/-- Something of a list that holds anything is chosen. -/
theorem chooseDue_of_ne_nil (n : Nat) {cs : List Instr} (h : cs ≠ []) : ∃ c ∈ cs, chooseDue n cs = some c := by
  have short : Config.dueOrder n % cs.length < cs.length := Nat.mod_lt _ (List.length_pos_iff.mpr h)
  exact ⟨cs[Config.dueOrder n % cs.length], List.getElem_mem short, List.getElem?_eq_getElem short⟩

theorem step_of_nextDue {s : State} (hp : s.pending = []) {c : Instr} (h : s.nextDue = some c) :
    step s = exec c { s with free := s.free + 1 } := by
  simp only [step, hp, idleStep, h]

theorem step_of_firstDue {s : State} (hp : s.pending = []) (h : s.firstDue ≠ []) :
    ∃ c ∈ s.firstDue, step s = exec c { s with free := s.free + 1 } := by
  obtain ⟨c, hc, chosen⟩ := chooseDue_of_ne_nil s.free h
  exact ⟨c, hc, step_of_nextDue hp (by rw [State.nextDue, if_neg (by simpa using h), chosen])⟩

theorem State.firstDue_of_called {s : State} (h : s.restartCalled = true) : s.firstDue = [.warmRestart] := if_pos h

theorem State.mem_firstDue {s : State} (h : s.restartCalled = false) (c : Instr) :
    c ∈ s.firstDue ↔ ∃ i, s.launchMissed i = true ∧ c = .missedLaunch i := by
  unfold State.firstDue
  rw [if_neg (by simp [h])]
  simp only [List.mem_map, List.mem_filter, mem_allSlots, true_and]
  exact exists_congr fun i => and_congr_right' eq_comm

theorem State.firstDue_eq_nil {s : State} (h : s.restartCalled = false) (none_missed : ∀ i, s.launchMissed i ≠ true) :
    s.firstDue = [] := by
  refine List.eq_nil_iff_forall_not_mem.mpr fun c hc => ?_
  obtain ⟨i, missed, -⟩ := (State.mem_firstDue h c).mp hc
  exact none_missed i missed

end Sys2Proof.Machine
end

section
/-! SUPPORT. What is due, command by command, and the idle step. -/

namespace Sys2Proof.Machine

/-! ### What is due, command by command -/

/-- The cause of a command as the table of events has it; none for a command that comes from outside (log 1). -/
def State.causeHolds (s : State) : Instr → Bool
  | .switchEvent => s.switchDue
  | .refLost => s.refLostDue
  | .refBack => s.refBackDue
  | .ppsMissing => s.ppsMissingDue
  | .gap l => s.gapDue l
  | .silenceTimeout l => (s.link l).up && decide (s.store.settings.silence * 10000000 ≤ (s.link l).silence)
  | .admissionFree => s.arbiter.occupied && Config.admissionFrees s.free
  | .deadline i => s.deadlineDue i
  | .keptEndWhileLate i => s.keptEndDue i
  | .retirement i => s.retirementDue i
  | .keyUp i => s.keyUpDue i
  | .launch => s.launchDue.isSome
  | .pacerCarry => s.carryDue
  | .blockRead => s.blockWanted.isSome
  | .tailEnd => s.tailDone
  | .readFramePlaced => s.readFrameDue
  | .readStall => s.readStallDue
  | .storeComplete v => s.storeDue && decide (v = Config.storeVerifies s.free)
  | .replySent l => s.replyDue l
  | _ => false

theorem mem_slotEvents {f : Slot → Instr} {p : Slot → Bool} {c : Instr} :
    c ∈ (allSlots.filter p).map f ↔ ∃ i, p i = true ∧ c = f i := by
  simp only [List.mem_map, List.mem_filter, mem_allSlots, true_and]
  exact exists_congr fun i => and_congr_right' eq_comm

theorem State.mem_dueEvents_iff (s : State) (c : Instr) : c ∈ s.dueEvents ↔ s.causeHolds c = true := by
  unfold State.dueEvents
  simp only [List.mem_append, mem_dueIf, mem_slotEvents]
  cases c with
  | gap l => cases l <;> simp [State.causeHolds]
  | silenceTimeout l => cases l <;> simp [State.causeHolds, Config.periodsPerSecond] <;> rfl
  | replySent l => cases l <;> simp [State.causeHolds]
  | _ => simp [State.causeHolds]

/-- Settles O2: what is due, and so the event taken, or the beat. -/
theorem idleStepTakesWhatIsDueOrBeats : Obligations.IdleStepTakesWhatIsDueOrBeats := by
  unfold Obligations.IdleStepTakesWhatIsDueOrBeats
  refine ⟨fun s hp => ?_, fun s c => ?_, fun s => s.beat_eq⟩
  · simp only [← State.launchMissed_iff]
    refine ⟨fun called => ?_, fun not_called i missed => ?_, fun not_called none_missed due => ?_,
      fun not_called none_missed none_due => ?_⟩
    · have first := State.firstDue_of_called called
      obtain ⟨c, hc, taken⟩ := step_of_firstDue hp (by simp [first])
      rw [first, List.mem_singleton] at hc
      rw [taken, hc]
    · have there := (State.mem_firstDue not_called (.missedLaunch i)).mpr ⟨i, missed, rfl⟩
      obtain ⟨c, hc, taken⟩ := step_of_firstDue hp (List.ne_nil_of_mem there)
      obtain ⟨j, hj, rfl⟩ := (State.mem_firstDue not_called c).mp hc
      exact ⟨j, hj, taken⟩
    · obtain ⟨c, hc, chosen⟩ := chooseDue_of_ne_nil s.free due
      refine ⟨c, hc, step_of_nextDue hp ?_⟩
      rw [State.nextDue, State.firstDue_eq_nil not_called none_missed]
      exact chosen
    · have nothing : s.nextDue = none := by
        rw [State.nextDue, State.firstDue_eq_nil not_called none_missed, none_due]
        rfl
      simp only [step, hp, idleStep, nothing]
  · rw [State.mem_dueEvents_iff]
    cases c with
    | deadline j => simp [State.causeHolds, State.deadlineDue_iff]
    | keptEndWhileLate j => simp [State.causeHolds, State.keptEndDue_iff]
    | retirement j => simp [State.causeHolds, State.retirementDue_iff]
    | keyUp j => simp [State.causeHolds, State.keyUpDue_iff]
    | launch => simp [State.causeHolds, State.launchDue_isSome_iff]
    | blockRead => simp [State.causeHolds, State.blockWanted_isSome_iff, and_or_left]
    | storeComplete v =>
      simp only [State.causeHolds, Bool.and_eq_true, decide_eq_true_eq, State.storeDue_iff]
      constructor
      · rintro ⟨⟨op, storing, ends⟩, rfl⟩
        simp [storing, ends]
      · intro h
        obtain ⟨op, storing, rfl, ends⟩ : ∃ op, s.engine = .storing op ∧ v = Config.storeVerifies s.free
            ∧ (Config.storeEnds s.free = true ∨ 4000000 ≤ op.elapsed) := by simpa using h
        exact ⟨⟨op, storing, ends⟩, rfl⟩
    | switchEvent => simp [State.causeHolds, State.switchDue_iff]
    | refLost => simp [State.causeHolds, State.refLostDue_iff]
    | refBack => simp [State.causeHolds, State.refBackDue_iff]
    | ppsMissing => simp [State.causeHolds, State.ppsMissingDue_iff]
    | pacerCarry => simp [State.causeHolds, State.carryDue_iff]
    | tailEnd => simp [State.causeHolds, State.tailDone_iff]
    | readFramePlaced => simp [State.causeHolds, State.readFrameDue_iff]
    | readStall => simp [State.causeHolds, State.readStallDue_iff]
    | gap l => simp [State.causeHolds, State.gapDue_iff]
    | silenceTimeout l => simp [State.causeHolds]
    | admissionFree => simp [State.causeHolds]
    | replySent l => simp [State.causeHolds, State.replyDue_iff]
    | _ => simp [State.causeHolds]

end Sys2Proof.Machine
end

section
/-! SUPPORT. The reset, the cold start, and the events of the site time unit but the edge in ACQUIRING. -/

namespace Sys2Proof.Machine

/-! ### The reset (R18) -/

theorem State.reset_record (i : Slot) : State.reset.record i = none := State.record_of_empty rfl i

theorem State.reset_records : State.reset.records = [] := by
  simp [State.records, State.reset]

/-- Settles O3: at reset no record is held, and the laws that read none are met by the values of reset. -/
theorem resetMeetsEveryLaw : Obligations.ResetMeetsEveryLaw := by
  unfold Obligations.ResetMeetsEveryLaw
  have no_record : ∀ r, r ∉ State.reset.records := by simp [State.reset_records]
  refine ⟨State.reset_memory_wf, ?_, ⟨?_, fun r hr => absurd hr (no_record r)⟩, ?_, ⟨?_, ⟨rfl, rfl⟩⟩,
    ⟨fun _ => rfl, ?_⟩,
    ⟨fun r hr => absurd hr (no_record r), fun r hr => absurd hr (no_record r)⟩, fun _ r hr => absurd hr (no_record r), ?_⟩
  · rw [NumbersDistinct, State.heldNumbers, State.reset_records]
    exact List.nodup_nil
  · have free : State.reset.symbols.free = fullFreeList := by simp only [State.reset]
    simp only [State.heldBlocks, State.reset_records, free, List.flatMap_nil, List.append_nil, List.Perm.refl]
  · exact ⟨fun _ => rfl, Nat.zero_le _, nofun, fun _ => ⟨rfl, rfl⟩⟩
  · intro i r hr
    rw [State.reset_record] at hr
    cases hr
  · rintro (h | h | h) <;> cases h
  · exact ⟨fun l => by cases l <;> exact Nat.zero_le _, fun l => by cases l <;> exact Nat.zero_le _, Nat.zero_le _⟩

/-! ### The cold start -/

/-- The active number of a copy is its byte 2099 (R178). -/
theorem natAt_one (bs : List Byte) (off : Nat) : natAt bs off 1 = (bs.getD off 0).toNat := by
  unfold natAt fieldAt unsignedOf
  rw [List.getD_eq_getElem?_getD, ← List.head?_drop]
  cases bs.drop off <;> simp

/-- A copy fails by its check or by its active number (R39, R40). -/
theorem readCopy_eq_none {nv : NvCopy}
    (h : crc16 nv.bytes ≠ nv.check ∨ 3 < (nv.bytes.getD 2099 0).toNat) : readCopy nv = none := by
  unfold readCopy
  refine dif_neg ?_
  rintro ⟨check, active⟩
  rw [natAt_one] at active
  exact h.elim (fun e => e check) fun above => by omega

/-- What a cold start finds when no STORE is in progress. -/
theorem State.copyFound_of_not_storing {s : State} (h : ∀ op, s.engine ≠ .storing op) : s.copyFound = s.store.nv := by
  unfold State.copyFound
  split
  · next op e => exact absurd e (h op)
  · rfl

theorem coldStore_nv (nv : NvCopy) : (coldStore nv).nv = nv ∧ (coldStore nv).pending = none := by
  unfold coldStore
  split <;> exact ⟨rfl, rfl⟩

/-- Settles O22: the copy found decides the profile store, and every other block is laid down as it is. -/
theorem coldStartSetsEveryBlock : Obligations.ColdStartSetsEveryBlock := by
  unfold Obligations.ColdStartSetsEveryBlock
  refine ⟨fun s not_storing => ?_, fun s op storing => ?_⟩
  · have found := State.copyFound_of_not_storing not_storing
    obtain ⟨nv, pending⟩ := coldStore_nv s.store.nv
    refine ⟨s.coldStart, rfl, rfl, rfl, rfl, rfl, rfl, rfl, rfl, rfl, rfl, rfl, rfl, rfl, rfl, rfl, ?_, ?_,
      fun settings profiles active recalled => ?_, fun failed => ?_, fun l => ?_, rfl, rfl, rfl,
      State.record_coldStart s, rfl, rfl, rfl, rfl, fun c => ?_, rfl⟩
    · simp only [State.coldStart, found, nv]
    · simp only [State.coldStart, found, pending]
    · simp only [State.coldStart, found, coldStore, recalled]
      decide
    · simp only [State.coldStart, found, coldStore, readCopy_eq_none failed]
      decide
    · cases l <;> rfl
    · simp [State.counter, State.coldStart, Vector.get]
  · have found : s.copyFound = mixedCopy s.free s.store.nv op.snapshot := by simp only [State.copyFound, storing]
    simp only [exec, execColdStart, State.coldStart, found]
    rfl

end Sys2Proof.Machine
end

section
/-! SUPPORT. The events of the site time unit but the edge in ACQUIRING. -/

namespace Sys2Proof.Machine

/-! ### A new clock state -/

/-- Leaving LOCKED raises the CLOCK alarm (R17, R173). -/
theorem State.setClockState_leaving {s : State} {c : ClockState} (h : s.time.state = .locked) (hc : c ≠ .locked) :
    s.setClockState c = { s with time := { s.time with state := c }, latches := s.latches ||| 0x01 } :=
  if_pos ⟨h, hc⟩

/-- A clock state entered from another than LOCKED changes no latch. -/
theorem State.setClockState_quiet {s : State} (h : s.time.state ≠ .locked) (c : ClockState) :
    s.setClockState c = { s with time := { s.time with state := c } } :=
  if_neg fun both => h both.1

theorem State.holdoverFromLocked_eq {s : State} (h : s.time.state = .locked) :
    s.holdoverFromLocked = { s with
      time := { s.time with u := 1000, outliers := 0, qualityZero := 0, state := .holdover }
      latches := s.latches ||| 0x01 } :=
  State.setClockState_leaving h (by decide)

/-! ### Losing a reference -/

/-- A reference lost, by clock state (R6, R11, R13, R14). -/
theorem State.referenceLost_eq (s : State) :
    s.referenceLost = match s.time.state with
      | .unset => s
      | .acquiring false => { s with time := { s.time with run := 0, stepPending := false } }
      | .acquiring true => { s with time := { s.time with run := 0, stepPending := false, state := .holdover } }
      | .locked =>
        { s with
          time := { s.time with u := 1000, outliers := 0, qualityZero := 0, state := .holdover }
          latches := s.latches ||| 0x01 }
      | .holdover => s := by
  unfold State.referenceLost
  cases h : s.time.state with
  | unset => rfl
  | acquiring e =>
    cases e with
    | false => rfl
    | true => exact State.setClockState_quiet (by simp [h]) _
  | locked => exact State.holdoverFromLocked_eq h
  | holdover => rfl

/-- Settles O24: each event found due is the loss of its reference, or the change of the count source alone. -/
theorem referenceEventsActByClockState : Obligations.ReferenceEventsActByClockState := by
  unfold Obligations.ReferenceEventsActByClockState
  refine ⟨fun s present quiet => ?_, fun s n pps missing => ?_, fun s n absent timing long => ?_⟩
  · have due := (State.refLostDue_iff s).mpr ⟨present, quiet⟩
    exact congrArg Host.Outcome.next ((if_pos due).trans (State.referenceLost_eq _))
  · have due := (State.ppsMissingDue_iff s).mpr ⟨n, pps, missing⟩
    exact congrArg Host.Outcome.next ((if_pos due).trans (State.referenceLost_eq _))
  · have due := (State.refBackDue_iff s).mpr ⟨absent, n, timing, long⟩
    exact congrArg Host.Outcome.next (if_pos due)

/-! ### The second boundary -/

/-- A tick after the last one of a second is tick 0 of the next (R43, R45). -/
theorem Instant.add_one_of_last {x : Instant} (h : x.tick.val = 9999999) : x.add 1 = ⟨x.sec + 1, 0⟩ := by
  simp only [Instant.add, h]
  rfl

/-- Settles O26. -/
theorem secondBoundaryGrowsUncertainty : Obligations.SecondBoundaryGrowsUncertainty := by
  unfold Obligations.SecondBoundaryGrowsUncertainty
  intro s
  refine ⟨fun last => ⟨s.crossSecond, ?_, ?_, ?_, ?_⟩, fun not_last => ?_⟩
  · exact congrArg Host.Outcome.next (if_pos (by rw [last]))
  · rw [State.crossSecond, State.clockTick_eq]
    simp only [Instant.add_one_of_last last, TimeUnit.grownU_eq]
  · intro elsewhere
    rw [State.crossSecond, State.clockTick_eq]
    exact if_neg elsewhere
  · intro i r symbols current there
    rw [State.crossSecond, State.clockTick_eq]
    have inc : ((s.keying.current.bind s.record).map (·.inc)).getD 0 = r.inc := by simp [current, there]
    exact (if_pos symbols).trans (congrArg (fun n => { s.pacer with acc := s.pacer.acc + n }) inc)
  · exact congrArg Host.Outcome.next (if_neg fun h => not_last (Nat.succ.inj h))

/-! ### The edge outside acquisition -/

theorem edgeFixed_iff (t : TimeUnit) :
    t.edgeFixed = true ↔ t.refPresent = true ∧ ∃ m, t.coming = some m ∧ m.fix = true := by
  unfold TimeUnit.edgeFixed
  cases t.coming <;> simp

theorem edgeOffset_natAbs (c : Instant) :
    (edgeOffset c).natAbs = if c.tick.val < 5000000 then c.tick.val else 10000000 - c.tick.val := by
  have bound : c.tick.val < 10000000 := c.tick.isLt
  unfold edgeOffset
  split
  · rfl
  · simp only [Config.ticksPerSecond]
    omega

/-- A clean edge is within one tick of a second boundary and names the edge second (R5, R8). -/
theorem edgeClean_iff (t : TimeUnit) :
    t.edgeClean = true ↔ (t.clock.tick.val = 0 ∨ t.clock.tick.val = 1 ∨ t.clock.tick.val = 9999999)
      ∧ ∃ m, t.coming = some m
        ∧ m.second = if t.clock.tick.val < 5000000 then t.clock.sec else t.clock.sec + 1 := by
  have bound : t.clock.tick.val < 10000000 := t.clock.tick.isLt
  have near : (edgeOffset t.clock).natAbs ≤ 1
      ↔ t.clock.tick.val = 0 ∨ t.clock.tick.val = 1 ∨ t.clock.tick.val = 9999999 := by
    rw [edgeOffset_natAbs]
    split <;> omega
  have names : t.todMatches = true ↔ ∃ m, t.coming = some m
      ∧ m.second = if t.clock.tick.val < 5000000 then t.clock.sec else t.clock.sec + 1 := by
    unfold TimeUnit.todMatches edgeSecond
    cases t.coming <;> simp
  rw [TimeUnit.edgeClean, Bool.and_eq_true, decide_eq_true_eq, near, names]

/-- An edge that starts acquisition, from a unit not in LOCKED (R6, R14). -/
theorem State.edgeStarts_eq {s : State} (h : s.time.state ≠ .locked) (t : TimeUnit) (e : Bool) :
    s.edgeStarts t e =
      if t.edgeFixed then { s with time := { s.time with run := 1, state := .acquiring e } } else s := by
  unfold State.edgeStarts
  split
  · exact State.setClockState_quiet (s := { s with time := { s.time with run := 1 } }) h _
  · rfl

/-- An edge in LOCKED: clean, an outlier, or the third outlier (R12). -/
theorem State.edgeLocked_eq {s : State} (h : s.time.state = .locked) (t : TimeUnit) :
    s.edgeLocked t =
      if t.edgeClean then { s with time := { s.time with outliers := 0 } }
      else if t.outliers < 2 then { s with time := { s.time with outliers := t.outliers + 1 } }
      else
        { s with
          time := { s.time with
            u := min ((edgeOffset t.clock).natAbs * 1000) 2147483647
            run := 0, outliers := 0, state := .acquiring true }
          latches := s.latches ||| 0x01 } := by
  unfold State.edgeLocked
  split
  · rfl
  · by_cases few : t.outliers < 2
    · rw [if_neg (by omega), if_pos few]
    · rw [if_pos (by omega), if_neg few]
      refine State.setClockState_leaving ?_ (by decide)
      exact h

/-- Settles O27: the bookkeeping of every edge, and the edge in the three states that judge it at once. -/
theorem edgeJudgedOutsideAcquisition : Obligations.EdgeJudgedOutsideAcquisition := by
  unfold Obligations.EdgeJudgedOutsideAcquisition
  refine ⟨State.edgeTaken_eq, fun s => ?_, edgeFixed_iff⟩
  have state : s.edgeTaken.time.state = s.time.state := by rw [State.edgeTaken_time]
  have latches : s.edgeTaken.latches = s.latches := by
    rw [State.edgeTaken_eq]
    split <;> rfl
  refine ⟨fun h => ?_, fun h => ?_, fun h => ?_⟩
  · simp only [exec, execPpsEdge, State.ppsEdge, h]
    exact congrArg Host.Outcome.next (State.edgeStarts_eq (by simp [state, h]) _ _)
  · simp only [exec, execPpsEdge, State.ppsEdge, h]
    exact congrArg Host.Outcome.next (State.edgeStarts_eq (by simp [state, h]) _ _)
  · have clean : ((s.time.clock.tick = 0 ∨ s.time.clock.tick = 1 ∨ s.time.clock.tick = 9999999)
        ∧ s.time.coming.map (·.second)
          = some (if s.time.clock.tick.val < 5000000 then s.time.clock.sec else s.time.clock.sec + 1))
        ↔ s.time.edgeClean = true := by
      rw [edgeClean_iff, Option.map_eq_some_iff]
      simp only [Fin.ext_iff]
      rfl
    simp only [exec, execPpsEdge, State.ppsEdge, h, State.edgeLocked_eq (state.trans h), clean, edgeOffset_natAbs, latches,
      Nat.mul_comm 1000]

end Sys2Proof.Machine
end

section
/-! SUPPORT. The TOD receiver: a message byte by byte, its fields read back, and its judgement (R3, R13, R177). -/

namespace Sys2Proof.Machine

/-! ### The bytes of a message -/

/-- The four bytes of a second count, most significant first. -/
theorem bytesOf_second (w : Word32) :
    bytesOf 4 w.toNat =
      [(w >>> 24).setWidth 8, (w >>> 16).setWidth 8, (w >>> 8).setWidth 8, w.setWidth 8] := by
  have shifted : ∀ k, BitVec.ofNat 8 (w.toNat / 2 ^ k) = (w >>> k).setWidth 8 := fun k => by
    apply BitVec.eq_of_toNat_eq
    simp [Nat.shiftRight_eq_div_pow]
  have h3 := shifted 24
  have h2 := shifted 16
  have h1 := shifted 8
  have h0 := shifted 0
  simp only [BitVec.ushiftRight_zero] at h0
  simp only [bytesOf, ← h3, ← h2, ← h1, ← h0]
  rfl

/-- The second count of a message, read from its bytes. -/
theorem second_readsBack (w : Word32) (rest : List Byte) :
    BitVec.ofNat 32 (natAt (bytesOf 4 w.toNat ++ rest) 0 4) = w := by
  have bound := w.isLt
  apply BitVec.eq_of_toNat_eq
  simp [natAt, fieldAt, unsignedOf, bytesOf]
  omega

/-- The sum of a message's first five bytes as the receiver takes it. -/
theorem byteSum (bs : List Byte) (v : Nat) :
    BitVec.ofNat 8 (bs.foldl (fun v b => v + b.toNat) v) = bs.foldl (· + ·) (BitVec.ofNat 8 v) := by
  induction bs generalizing v with
  | nil => rfl
  | cons b bs ih => simp [ih, BitVec.ofNat_add]

/-- A stop-bit error on one of the six bytes. -/
theorem faults_iff (faults : BitVec 6) :
    (faults.getLsbD 0 || faults.getLsbD 1 || faults.getLsbD 2 || faults.getLsbD 3 || faults.getLsbD 4
      || faults.getLsbD 5) = decide (faults ≠ 0) := by
  revert faults
  decide

/-! ### The receiver -/

/-- The receiver inside a message. -/
def State.inMessage (s : State) (p : TodPart) : State := { s with time := { s.time with tod := some p } }

theorem State.inMessage_self {s : State} {p : TodPart} (h : s.time.tod = some p) : s.inMessage p = s := by
  unfold State.inMessage
  rw [← h]

theorem State.todByte_hunting {s : State} (h : s.time.tod = none) (b : Byte) (e : Bool) :
    s.todByte b e = if b = 0xD7 then s.inMessage { bytes := [], faulty := e } else s := by
  unfold State.todByte
  simp only [h]
  rfl

theorem State.todByte_inMessage (s : State) {p : TodPart} (h : p.bytes.length < 5) (b : Byte) (e : Bool) :
    (s.inMessage p).todByte b e = s.inMessage { bytes := p.bytes ++ [b], faulty := p.faulty || e } :=
  if_pos (by simp; omega)

theorem State.todByte_last (s : State) {p : TodPart} (h : p.bytes.length = 5) (b : Byte) (e : Bool) :
    (s.inMessage p).todByte b e = (s.inMessage p).todComplete (p.bytes ++ [b]) (p.faulty || e) :=
  if_neg (by simp [h])

/-- The judgement does not read the receiver. -/
theorem State.todComplete_inMessage (s : State) (p : TodPart) (bytes : List Byte) (faulty : Bool) :
    (s.inMessage p).todComplete bytes faulty = s.todComplete bytes faulty := rfl

/-- A message is taken byte by byte (R3, R177). -/
theorem exec_todMessage_bytes (s : State) (second : Word32) (quality check : Byte) (faults : BitVec 6) :
    exec (.todMessage second quality check faults) s = .next
      (((((((s.todByte ((second >>> 24).setWidth 8) (faults.getLsbD 0)).todByte ((second >>> 16).setWidth 8)
        (faults.getLsbD 1)).todByte ((second >>> 8).setWidth 8) (faults.getLsbD 2)).todByte (second.setWidth 8)
        (faults.getLsbD 3)).todByte quality (faults.getLsbD 4)).todByte check (faults.getLsbD 5))) := by
  simp only [exec, execTodMessage, bytesOf_second]
  rfl

/-- The six bytes after the lead byte complete the message. -/
theorem exec_todMessage_completes {s : State} {e : Bool} (h : s.time.tod = some { bytes := [], faulty := e })
    (second : Word32) (quality check : Byte) (faults : BitVec 6) :
    exec (.todMessage second quality check faults) s = .next (s.todComplete
      (bytesOf 4 second.toNat ++ [quality, check]) (e || decide (faults ≠ 0))) := by
  rw [exec_todMessage_bytes, ← faults_iff, bytesOf_second]
  conv_lhs => rw [← State.inMessage_self h]
  rw [State.todByte_inMessage _ (by simp), State.todByte_inMessage _ (by simp), State.todByte_inMessage _ (by simp),
    State.todByte_inMessage _ (by simp), State.todByte_inMessage _ (by simp), State.todByte_last _ (by simp),
    State.todComplete_inMessage]
  simp only [Bool.or_assoc]
  rfl

/-- A good message of quality other than 1 in LOCKED (R13). -/
theorem State.qualityRun_eq (s : State) (fix : Bool) :
    s.qualityRun fix =
      if fix then { s with time := { s.time with qualityZero := 0 } }
      else if s.time.state = .locked then
        if s.time.qualityZero < 2 then { s with time := { s.time with qualityZero := s.time.qualityZero + 1 } }
        else
          { s with
            time := { s.time with u := 1000, outliers := 0, qualityZero := 0, state := .holdover }
            latches := s.latches ||| 0x01 }
      else s := by
  unfold State.qualityRun
  split
  · rfl
  · split
    · next locked =>
      by_cases few : s.time.qualityZero < 2
      · rw [if_neg (by omega), if_pos few]
      · rw [if_pos (by omega), if_neg few, State.holdoverFromLocked_eq locked]
    · rfl

/-- A complete message judged: ignored and counted, or good (R3). -/
theorem State.todComplete_eq (s : State) (second : Word32) (quality check : Byte) (faulty : Bool) :
    s.todComplete (bytesOf 4 second.toNat ++ [quality, check]) faulty =
      if faulty = true ∨ check ≠ (second >>> 24).setWidth 8 + (second >>> 16).setWidth 8 + (second >>> 8).setWidth 8
          + second.setWidth 8 + quality then s.todIgnored
      else s.todGood second (decide (quality = 1)) := by
  unfold State.todComplete
  rw [second_readsBack, byteSum, bytesOf_second]
  cases faulty <;> simp

/-- Settles O25: the six bytes after the lead byte are judged at the last of them. -/
theorem todMessageIsJudgedWhole : Obligations.TodMessageIsJudgedWhole := by
  unfold Obligations.TodMessageIsJudgedWhole
  refine ⟨fun s e hunting => ?_, fun s e second quality check faults inside => ?_,
    fun s b e => ⟨fun hunting other => ?_, fun hunting => ?_, fun p inside short => ?_⟩, fun _ _ => rfl,
    exec_todMessage_bytes⟩
  · exact congrArg Host.Outcome.next ((State.todByte_hunting hunting _ e).trans (if_pos rfl))
  · rw [exec_todMessage_completes inside, State.todComplete_eq]
    simp only [State.todGood, State.qualityRun_eq, Bool.or_eq_true, decide_eq_true_eq, or_assoc]
    rfl
  · rw [State.todByte_hunting hunting, if_neg other]
  · rw [State.todByte_hunting hunting, if_pos rfl]
    rfl
  · rw [← State.inMessage_self inside]
    exact State.todByte_inMessage s short b e

end Sys2Proof.Machine
end

section
/-! SUPPORT. The key-up decision, branch by branch: what each makes of the record, of the sequencer and of the state, and what
it leaves alone (R138 to R141, R145, R147, R148). -/

namespace Sys2Proof.Machine

/-! ### An instant and a count added to it (R44, R45) -/

/-- An instant plus a count, within half the range of seconds, differs from it by that count. -/
theorem Instant.diff_add_self (x : Instant) (c : Int) (lo : -21474836480000000 ≤ c) (hi : c ≤ 21474836470000000) :
    (x.add c).diff x = c := by
  have tick : x.tick.val < 10000000 := x.tick.isLt
  have second : secondDiff (x.add c).sec x.sec = ((x.tick.val : Int) + c) / 10000000 := by
    simp only [secondDiff, Instant.add, Config.ticksPerSecond]
    rw [show ∀ a b : Word32, a + b - a = b by intro a b; bv_omega, BitVec.toInt_ofInt]
    refine Int.bmod_eq_of_le ?_ ?_ <;> omega
  have rest : (((x.add c).tick.val : Nat) : Int) = ((x.tick.val : Int) + c) % 10000000 := by
    simp only [Instant.add, Config.ticksPerSecond, Fin.ofNat]
    omega
  rw [Instant.diff, second, rest]
  simp only [Config.ticksPerSecond]
  omega

/-! ### The tail -/

/-- A tail is over at its entry exactly when it is 0 (R147). -/
theorem State.tailDone_enterTail (s : State) (row : ModeRow) (strobe : Bool) (h : row.tail ≤ 1000000) :
    (s.enterTail row strobe).tailDone = true ↔ row.tail = 0 := by
  rw [State.tailDone_iff]
  have later : ((s.time.clock.add (row.tail : Int)).diff s.time.clock) = (row.tail : Int) :=
    Instant.diff_add_self _ _ (by omega) (by omega)
  have entered : (s.enterTail row strobe).keying.state = .tail
      ∧ (s.enterTail row strobe).keying.tailEnd = some (s.time.clock.add (row.tail : Int)) := by
    cases strobe <;> exact ⟨rfl, rfl⟩
  simp only [entered, State.enterTail_time, true_and, Option.some.injEq, exists_eq_left', later]
  omega

/-! ### Records -/

theorem State.becomeShadow_eq {s : State} {i : Slot} {r : Record} (hr : s.record i = some r) (h : r.state ≠ .shadow)
    (o : BatchOutcome) : s.becomeShadow i o =
      (s.releaseBlocks r).setRecord i { r.unchained with state := .shadow, shadow := some o } := by
  unfold State.becomeShadow
  simp only [hr]
  exact if_neg h

@[simp] theorem State.setRecord_setRecord (s : State) (i : Slot) (q r : Record) :
    (s.setRecord i q).setRecord i r = s.setRecord i r := by
  simp [State.setRecord]

theorem State.isShadow_eq {s : State} {i : Slot} {r : Record} (hr : s.record i = some r) :
    s.isShadow i = decide (r.state = .shadow) := by
  simp only [State.isShadow, hr]

/-- A record that becomes SHADOW is SHADOW. -/
theorem State.isShadow_becomeShadow {s : State} {i : Slot} {r : Record} (hr : s.record i = some r)
    (o : BatchOutcome) : (s.becomeShadow i o).isShadow i = true := by
  simp only [State.isShadow, State.record_becomeShadow, if_true, hr, Option.map_some]
  split <;> simp [*]

/-- Whether a record is SHADOW is read off the table alone. -/
theorem State.isShadow_of_table {s t : State} (h : s.table = t.table) (i : Slot) : s.isShadow i = t.isShadow i := by
  simp only [State.isShadow, State.record, h]

/-! ### The branches of the decision -/

theorem State.decideKeyUp_muted {s : State} {i : Slot} {r : Record} (hr : s.record i = some r)
    (gate : s.gateOpen r.row = false) : s.decideKeyUp i = (s.latch .muted).refuseKeyUp i .muted := by
  simp only [State.decideKeyUp, hr, gate, if_true]

theorem State.decideKeyUp_notReady {s : State} {i : Slot} {r : Record} (hr : s.record i = some r)
    (gate : s.gateOpen r.row = true) (ready : s.keying.txrdy = false) :
    s.decideKeyUp i = (s.latch .tx).refuseKeyUp i .notReady := by
  simp only [State.decideKeyUp, hr, gate, ready, Bool.true_eq_false, if_false, if_true]

theorem State.decideKeyUp_fault {s : State} {i : Slot} {r : Record} (hr : s.record i = some r)
    (gate : s.gateOpen r.row = true) (ready : s.keying.txrdy = true) (fault : s.readBlock r (r.j / 256) = none) :
    s.decideKeyUp i = (((s.becomeKeying i r).latch .store).dropRecord i .storeFault).zeroTail := by
  simp only [State.decideKeyUp, hr, gate, ready, Bool.true_eq_false, if_false, Config.blockSymbols, fault]

/-- The record is KEYING, the block of its symbol j held for the pacer (R140, R141). -/
def State.keyedWith (s : State) (i : Slot) (r : Record) (img : BlockImage) : State :=
  { s.becomeKeying i r with pacer := { acc := 0, symbol := r.j, block := some img, next := none } }

theorem State.decideKeyUp_keyed {s : State} {i : Slot} {r : Record} (hr : s.record i = some r)
    (gate : s.gateOpen r.row = true) (ready : s.keying.txrdy = true) {img : BlockImage}
    (read : s.readBlock r (r.j / 256) = some img) :
    s.decideKeyUp i = if r.keptLaunch.reached s.time.clock then (s.keyedWith i r img).startSymbols i
      else s.keyedWith i r img := by
  simp only [State.decideKeyUp, hr, gate, ready, Bool.true_eq_false, if_false, Config.blockSymbols, read]
  rfl

/-! ### The decision touches its own record alone -/

theorem State.record_dropRecord (s : State) (i : Slot) (o : BatchOutcome) (j : Slot) :
    (s.dropRecord i o).record j = (s.becomeShadow i o).record j := by
  unfold State.dropRecord
  split
  · next h => simp [State.becomeShadow, h]
  · dsimp only
    split <;> simp

theorem State.zeroTail_table (s : State) : s.zeroTail.table = s.table := by
  unfold State.zeroTail
  split <;> rfl

theorem State.record_refuseKeyUp (s : State) (i : Slot) (o : BatchOutcome) (j : Slot) :
    (s.refuseKeyUp i o).record j = (s.becomeShadow i o).record j := by
  unfold State.refuseKeyUp
  dsimp only
  split
  · rw [State.record_of_table _ _ j (State.zeroTail_table _), State.tailFromHold_record]
  · rfl

theorem State.record_startSymbols {s : State} {i : Slot} {r : Record} (hr : s.record i = some r) (j : Slot) :
    (s.startSymbols i).record j =
      if j = i then some { r with state := .onAir, sent := r.sent + 1 } else s.record j := by
  unfold State.startSymbols
  simp only [hr]
  exact State.record_setRecord s i j _

theorem State.record_keyedWith (s : State) (i : Slot) (r : Record) (img : BlockImage) (j : Slot) :
    (s.keyedWith i r img).record j = if j = i then some { r with state := .keying } else s.record j :=
  GuardedMove.becomeKeying_record s i r j

/-- What a decision makes of its record: SHADOW, KEYING or ON_AIR; and every other record stands (R140, R141). -/
theorem State.record_decideKeyUp_other (s : State) {i j : Slot} (h : j ≠ i) :
    (s.decideKeyUp i).record j = s.record j := by
  have refused : ∀ (u : State) (o : BatchOutcome), (u.refuseKeyUp i o).record j = u.record j := fun u o => by
    rw [State.record_refuseKeyUp, State.record_becomeShadow, if_neg h]
  cases hr : s.record i with
  | none => simp only [State.decideKeyUp, hr]
  | some r =>
    cases gate : s.gateOpen r.row with
    | false => rw [State.decideKeyUp_muted hr gate, refused, State.latch_record]
    | true =>
      cases ready : s.keying.txrdy with
      | false => rw [State.decideKeyUp_notReady hr gate ready, refused, State.latch_record]
      | true =>
        cases read : s.readBlock r (r.j / 256) with
        | none =>
          rw [State.decideKeyUp_fault hr gate ready read, State.record_of_table _ _ j (State.zeroTail_table _),
            State.record_dropRecord, State.record_becomeShadow, if_neg h, State.latch_record,
            GuardedMove.becomeKeying_record, if_neg h]
        | some img =>
          have there := State.record_keyedWith s i r img
          rw [State.decideKeyUp_keyed hr gate ready read]
          split
          · rw [State.record_startSymbols ((there i).trans (if_pos rfl)), if_neg h, there, if_neg h]
          · rw [there, if_neg h]

/-! ### KEY_UP -/

/-- A decision that leaves its record other than SHADOW leaves no retirement (R114). -/
theorem State.retireNext_decideKeyUp {s : State} {i : Slot} (h : (s.decideKeyUp i).isShadow i = false) :
    State.retireNext s (s.decideKeyUp i) = s.decideKeyUp i := by
  refine State.retireNext_without _ _ fun j => ?_
  by_cases e : j = i
  · subst e
    cases due : (s.decideKeyUp j).retirementDue j with
    | false => simp [State.retiresNext, due]
    | true => exact absurd (State.isShadow_of_retirementDue due) (by simp [h])
  · exact State.retiresNext_of_same _ _ j (State.record_decideKeyUp_other s e)

/-- KEY_UP of a record that the decision makes SHADOW: the next READY record is considered (R139, R140). -/
theorem exec_keyUp_refused {s : State} {i : Slot} (due : s.keyUpDue i = true)
    (h : (s.decideKeyUp i).isShadow i = true) :
    exec (.keyUp i) s = .next (State.retireNext s (s.decideKeyUp i).considerNext) := by
  simp only [exec, execKeyUp, due, if_true, State.decideThenNext, h]

/-- KEY_UP of a record that passes the decision: the decision alone (R139, R140). -/
theorem exec_keyUp_kept {s : State} {i : Slot} (due : s.keyUpDue i = true)
    (h : (s.decideKeyUp i).isShadow i = false) : exec (.keyUp i) s = .next (s.decideKeyUp i) := by
  simp only [exec, execKeyUp, due, if_true, State.decideThenNext_kept s i h, State.retireNext_decideKeyUp h]

end Sys2Proof.Machine
end

section
/-! SUPPORT. The whole next state of a key-up decision, from IDLE or TAIL and from HOLD, and the statement on it (R139 to R141,
R145, R147, R148). -/

namespace Sys2Proof.Machine

/-! ### The sequencer after a decision -/

/-- The sequencer in TAIL with a rest row, or in IDLE where the tail is 0 (R145, R147). -/
def Sequencer.tailed (k : Sequencer) (row : ModeRow) (now : Instant) : Sequencer :=
  if row.tail = 0 then
    { state := .idle, current := none, bridged := none, restRow := none, endInstant := none, tailEnd := none,
      mod := 0, modstb := true, txrdy := k.txrdy }
  else { k with
    state := .tail, current := none, bridged := none, restRow := some row, endInstant := none,
    tailEnd := some (now.add (row.tail : Int)) }

/-- The sequencer in LEAD for a record, its rest level out (R138, R140). -/
def leadFor (i : Slot) (row : ModeRow) (txrdy : Bool) : Sequencer :=
  { state := .lead, current := some i, bridged := none, restRow := some row, endInstant := none, tailEnd := none,
    mod := row.rest, modstb := true, txrdy := txrdy }

theorem State.zeroTail_enterTail (s : State) (row : ModeRow) (strobe : Bool) (h : row.tail ≤ 1000000) :
    (s.enterTail row strobe).zeroTail = { s with
      keying := (if strobe then { s.keying with mod := row.rest, modstb := true } else s.keying).tailed row
        s.time.clock } := by
  have done := State.tailDone_enterTail s row strobe h
  unfold State.zeroTail Sequencer.tailed
  by_cases none_left : row.tail = 0
  · rw [if_pos (done.mpr none_left), if_pos none_left]
    cases strobe <;> rfl
  · rw [if_neg fun d => none_left (done.mp d), if_neg none_left]
    cases strobe <;> rfl

/-- TAIL entered from HOLD, with the rest row of the finished batch, and a tail of 0 ended (R145, R147). -/
theorem State.zeroTail_tailFromHold {s : State} {row : ModeRow} (hrow : s.keying.restRow = some row)
    (h : row.tail ≤ 1000000) :
    s.tailFromHold.zeroTail = { s with keying := s.keying.tailed row s.time.clock } := by
  rw [State.tailFromHold, hrow, Option.getD_some, State.zeroTail_enterTail s row false h]
  rfl

/-! ### The state after each branch -/

theorem State.becomeKeying_lead {s : State} (h : s.keying.state ≠ .hold) (i : Slot) (r : Record) :
    s.becomeKeying i r = { s.setRecord i { r with state := .keying } with
      keying := leadFor i r.row s.keying.txrdy } := by
  unfold State.becomeKeying
  dsimp only
  split
  · next hold => exact absurd hold h
  · rfl

theorem State.becomeKeying_hold {s : State} (h : s.keying.state = .hold) (i : Slot) (r : Record) :
    s.becomeKeying i r = { s.setRecord i { r with state := .keying } with
      keying := { s.keying with current := some i, bridged := none } } := by
  unfold State.becomeKeying
  dsimp only
  split
  · rfl
  · next other => exact absurd h other

theorem State.refuseKeyUp_outside_hold {s : State} (h : s.keying.state ≠ .hold) (i : Slot) (o : BatchOutcome) :
    s.refuseKeyUp i o = s.becomeShadow i o := by
  unfold State.refuseKeyUp
  dsimp only
  split
  · next hold => exact absurd hold h
  · rfl

theorem State.refuseKeyUp_hold {s : State} (h : s.keying.state = .hold) {row : ModeRow}
    (hrow : s.keying.restRow = some row) (short : row.tail ≤ 1000000) (i : Slot) (o : BatchOutcome) :
    s.refuseKeyUp i o = { s.becomeShadow i o with keying := s.keying.tailed row s.time.clock } := by
  unfold State.refuseKeyUp
  simp only [h]
  rw [State.zeroTail_tailFromHold (by rw [State.becomeShadow_keying, hrow]) short]
  simp

/-- A KEYING record dropped is the READY one dropped, but for the sequencer. -/
theorem State.becomeShadow_becomeKeying {s : State} {i : Slot} {r : Record} (hr : s.record i = some r)
    (h : r.state = .ready) (a : Alarm) (o : BatchOutcome) :
    ((s.becomeKeying i r).latch a).becomeShadow i o =
      { (s.latch a).becomeShadow i o with keying := (s.becomeKeying i r).keying } := by
  have there : ((s.becomeKeying i r).latch a).record i = some { r with state := .keying } :=
    (GuardedMove.becomeKeying_record s i r i).trans (if_pos rfl)
  have twice := State.setRecord_setRecord ((s.latch a).releaseBlocks r) i { r with state := .keying }
    { r.unchained with state := .shadow, shadow := some o }
  rw [State.becomeShadow_eq there (by simp), State.becomeShadow_eq (s := s.latch a) hr (by simp [h])]
  by_cases hold : s.keying.state = .hold
  · rw [State.becomeKeying_hold hold]
    exact congrArg (fun u : State => { u with keying := { s.keying with current := some i, bridged := none } }) twice
  · rw [State.becomeKeying_lead hold]
    exact congrArg (fun u : State => { u with keying := leadFor i r.row s.keying.txrdy }) twice

theorem State.dropRecord_lead {s : State} {i : Slot} {r : Record} (hr : s.record i = some r) (hs : r.state = .keying)
    (hk : s.keying.state = .lead) (o : BatchOutcome) :
    s.dropRecord i o = (s.becomeShadow i o).enterTail r.row true := by
  unfold State.dropRecord
  simp only [hr, hs, hk]

theorem State.dropRecord_hold {s : State} {i : Slot} {r : Record} (hr : s.record i = some r) (hs : r.state = .keying)
    (hk : s.keying.state = .hold) (o : BatchOutcome) : s.dropRecord i o = (s.becomeShadow i o).tailFromHold := by
  unfold State.dropRecord
  simp only [hr, hs, hk]

/-- A read fault from IDLE or TAIL: TAIL with the record's row, its rest level put out (R104, R148). -/
theorem State.decideKeyUp_fault_lead {s : State} {i : Slot} {r : Record} (hr : s.record i = some r)
    (h : r.state = .ready) (gate : s.gateOpen r.row = true) (ready : s.keying.txrdy = true)
    (fault : s.readBlock r (r.j / 256) = none) (hold : s.keying.state ≠ .hold) (short : r.row.tail ≤ 1000000) :
    s.decideKeyUp i = { (s.latch .store).becomeShadow i .storeFault with
      keying := (leadFor i r.row true).tailed r.row s.time.clock } := by
  have there : ((s.becomeKeying i r).latch .store).record i = some { r with state := .keying } :=
    (GuardedMove.becomeKeying_record s i r i).trans (if_pos rfl)
  have lead := State.becomeKeying_lead hold i r
  have dropped := State.dropRecord_lead there rfl (by rw [State.latch_keying, lead]; rfl) .storeFault
  rw [State.decideKeyUp_fault hr gate ready fault, dropped, State.zeroTail_enterTail _ _ _ short,
    State.becomeShadow_becomeKeying hr h]
  simp only [lead, ready, if_true, State.becomeShadow_time]
  rfl

/-- A read fault in HOLD: TAIL with the rest row of the finished batch, no word put out (R104, R145). -/
theorem State.decideKeyUp_fault_hold {s : State} {i : Slot} {r : Record} (hr : s.record i = some r)
    (h : r.state = .ready) (gate : s.gateOpen r.row = true) (ready : s.keying.txrdy = true)
    (fault : s.readBlock r (r.j / 256) = none) (hold : s.keying.state = .hold) {row : ModeRow}
    (hrow : s.keying.restRow = some row) (short : row.tail ≤ 1000000) :
    s.decideKeyUp i = { (s.latch .store).becomeShadow i .storeFault with
      keying := s.keying.tailed row s.time.clock } := by
  have there : ((s.becomeKeying i r).latch .store).record i = some { r with state := .keying } :=
    (GuardedMove.becomeKeying_record s i r i).trans (if_pos rfl)
  have held := State.becomeKeying_hold hold i r
  have dropped := State.dropRecord_hold there rfl (by rw [State.latch_keying, held]; exact hold) .storeFault
  rw [State.decideKeyUp_fault hr gate ready fault, dropped, State.becomeShadow_becomeKeying hr h, held]
  refine (State.zeroTail_tailFromHold (row := row) ?_ short).trans ?_
  · exact hrow
  · simp only [Sequencer.tailed, State.becomeShadow_time]
    rfl

end Sys2Proof.Machine
end

section
/-! SUPPORT. The launch gate, the look at the next record, and the key-up decision as the rules word them (R16, R139 to R141). -/

namespace Sys2Proof.Machine

/-! ### The gate, the block read and the next record -/

/-- The launch gate (R16). -/
theorem State.gateOpen_iff (s : State) (row : ModeRow) :
    s.gateOpen row = true ↔ s.time.state = .locked
      ∨ ((s.time.state = .holdover ∨ s.time.state = .acquiring true) ∧ (s.time.u + 999) / 1000 ≤ row.tolerance) := by
  unfold State.gateOpen ceilTicks
  split <;> simp [*]

theorem State.readBlock_of_block {r : Record} {b : Nat} {n : Block} (h : r.blockOf b = some n) (s : State) :
    s.readBlock r b = if crc16 (s.symbols.blockBytes n) = s.symbols.checks.get n then
      some { index := b, bytes := s.symbols.blockBytes n } else none := by
  simp only [State.readBlock, h]

theorem State.readBlock_of_absent {r : Record} {b : Nat} (h : r.blockOf b = none) (s : State) :
    s.readBlock r b = none := by
  simp only [State.readBlock, h]

theorem State.considerNext_of_headReady_none {t : State} (h : t.headReady = none) : t.considerNext = t := by
  simp [State.considerNext, h]

/-- The head READY record is READY (R108). -/
theorem State.ready_of_headReady {s : State} {b : Slot} {q : Record} (h : s.headReady = some b)
    (hq : s.record b = some q) : q.state = .ready := by
  have ready := List.find?_some h
  simpa only [State.isReady, hq, decide_eq_true_eq] using ready

theorem State.considerNext_due {t : State} {b : Slot} (head : t.headReady = some b) (due : t.keyUpDue b = true) :
    t.considerNext = { t with pending := .keyUp b :: t.pending } := by
  unfold State.considerNext
  simp only [head, due, if_true]
  rfl

theorem State.considerNext_not_due {t : State} {b : Slot} (head : t.headReady = some b)
    (not_due : t.keyUpDue b = false) : t.considerNext = t := by
  simp [State.considerNext, head, not_due]

/-! ### KEY_UP, branch by branch -/

/-- KEY_UP of a record that the decision makes SHADOW, the state after the decision given. -/
theorem exec_keyUp_dropped {s u t : State} {i : Slot} {r : Record} {o : BatchOutcome} (due : s.keyUpDue i = true)
    (hr : u.record i = some r) (decided : s.decideKeyUp i = t) (table : t.table = (u.becomeShadow i o).table) :
    exec (.keyUp i) s = .next (State.retireNext s t.considerNext) := by
  have shadow : (s.decideKeyUp i).isShadow i = true := by
    rw [decided]
    exact (State.isShadow_of_table table i).trans (State.isShadow_becomeShadow hr o)
  rw [exec_keyUp_refused due shadow, decided]

/-- KEY_UP ahead of the kept launch: KEYING, the block of symbol j held (R140). -/
theorem exec_keyUp_keyed {s : State} {i : Slot} {r : Record} (due : s.keyUpDue i = true) (hr : s.record i = some r)
    (gate : s.gateOpen r.row = true) (ready : s.keying.txrdy = true) {img : BlockImage}
    (read : s.readBlock r (r.j / 256) = some img) (ahead : 0 < r.keptLaunch.diff s.time.clock) :
    exec (.keyUp i) s = .next (s.keyedWith i r img) := by
  have not_reached : ¬ r.keptLaunch.reached s.time.clock = true := by
    rw [Instant.reached_iff]
    omega
  have decided := State.decideKeyUp_keyed hr gate ready read
  rw [if_neg not_reached] at decided
  have there := (State.record_keyedWith s i r img i).trans (if_pos rfl)
  rw [exec_keyUp_kept due (by rw [decided, State.isShadow_eq there]; rfl), decided]

/-- KEY_UP at the kept launch: the symbols start in the same event (R141). -/
theorem exec_keyUp_starts {s : State} {i : Slot} {r : Record} (due : s.keyUpDue i = true) (hr : s.record i = some r)
    (gate : s.gateOpen r.row = true) (ready : s.keying.txrdy = true) {img : BlockImage}
    (read : s.readBlock r (r.j / 256) = some img) (now : r.keptLaunch.diff s.time.clock = 0) :
    ∃ t, exec (.keyUp i) s = .next t ∧ t.record i = some { r with state := .onAir, sent := r.sent + 1 }
      ∧ t.keying.state = .symbols ∧ t.keying.current = some i ∧ t.keying.bridged = none
      ∧ t.keying.restRow = some r.row ∧ t.keying.modstb = true
      ∧ t.pacer.symbol = r.j ∧ t.pacer.acc = preloadOf r.inc r.j := by
  have reached : r.keptLaunch.reached s.time.clock = true := by
    rw [Instant.reached_iff]
    omega
  have decided := State.decideKeyUp_keyed hr gate ready read
  rw [if_pos reached] at decided
  have there := (State.record_keyedWith s i r img i).trans (if_pos rfl)
  have after := (State.record_startSymbols there i).trans (if_pos rfl)
  refine ⟨_, exec_keyUp_kept due (by rw [decided, State.isShadow_eq after]; rfl), ?_⟩
  rw [decided]
  refine ⟨after, ?_⟩
  unfold State.startSymbols
  simp only [there]
  exact ⟨rfl, rfl, rfl, rfl, rfl, rfl, rfl⟩

/-- The sequencer of a finished batch in TAIL with its own rest row. -/
theorem Sequencer.tailed_own {k : Sequencer} {row : ModeRow} (h : k.restRow = some row) (now : Instant) :
    k.tailed row now = if row.tail = 0 then
        { state := .idle, current := none, bridged := none, restRow := none, endInstant := none, tailEnd := none,
          mod := 0, modstb := true, txrdy := k.txrdy }
      else { k with
        state := .tail, current := none, bridged := none, endInstant := none, tailEnd := some (now.add row.tail) } := by
  unfold Sequencer.tailed
  rw [← h]

/-- Settles O45: the gate, the look at the next record, and the branches of the decision from IDLE or TAIL and in HOLD. -/
theorem keyUpIsDecidedInThreeSteps : Obligations.KeyUpIsDecidedInThreeSteps := by
  unfold Obligations.KeyUpIsDecidedInThreeSteps
  refine ⟨State.gateOpen_iff, State.keyUpReached_iff, fun s r b n h => State.readBlock_of_block h s,
    fun s r b h => State.readBlock_of_absent h s, fun t h => State.considerNext_of_headReady_none h,
    fun t b q head hq => ⟨fun decides due ahead => ?_, fun not_now => ?_⟩,
    fun s i r hr ready_record key_up ahead head decides => ?_,
    fun s i r row hr ready_record key_up ahead head hold current bridged hrow short => ?_⟩
  · have ready := State.ready_of_headReady head hq
    exact State.considerNext_due head ((State.keyUpDue_iff t b).mpr
      ⟨q, hq, ready, due, ahead, head, decides.elim Or.inl fun tail => Or.inr (Or.inl tail)⟩)
  · refine State.considerNext_not_due head (Bool.eq_false_iff.mpr fun due => ?_)
    obtain ⟨q', hq', -, key_up, ahead, -⟩ := (State.keyUpDue_iff t b).mp due
    cases hq.symm.trans hq'
    omega
  · have due : s.keyUpDue i = true := (State.keyUpDue_iff s i).mpr
      ⟨r, hr, ready_record, key_up, ahead, head, decides.elim Or.inl fun tail => Or.inr (Or.inl tail)⟩
    have not_hold : s.keying.state ≠ .hold := by rcases decides with e | e <;> simp [e]
    refine ⟨fun gate => ?_, fun gate ready => ?_, fun gate ready img read later => ?_,
      fun gate ready img read now => ?_, fun gate ready fault long short => ?_, fun gate ready fault none_left => ?_⟩
    · exact exec_keyUp_dropped (u := s.latch .muted) due hr
        ((State.decideKeyUp_muted hr gate).trans (State.refuseKeyUp_outside_hold (s := s.latch .muted) not_hold i _)) rfl
    · exact exec_keyUp_dropped (u := s.latch .tx) due hr
        ((State.decideKeyUp_notReady hr gate ready).trans
          (State.refuseKeyUp_outside_hold (s := s.latch .tx) not_hold i _)) rfl
    · refine ⟨_, exec_keyUp_keyed due hr gate ready read later, rfl, ?_⟩
      rw [State.keyedWith, State.becomeKeying_lead not_hold, ready]
      rfl
    · obtain ⟨t, executed, record, state, current, -, -, rest⟩ := exec_keyUp_starts due hr gate ready read now
      exact ⟨t, executed, record, state, current, rest⟩
    · rw [exec_keyUp_dropped (u := s.latch .store) due hr
        (State.decideKeyUp_fault_lead hr ready_record gate ready fault not_hold short) rfl, Sequencer.tailed,
        if_neg (by omega)]
      rfl
    · rw [exec_keyUp_dropped (u := s.latch .store) due hr
        (State.decideKeyUp_fault_lead hr ready_record gate ready fault not_hold (by omega)) rfl, Sequencer.tailed,
        if_pos none_left]
      rfl
  · have due : s.keyUpDue i = true := (State.keyUpDue_iff s i).mpr
      ⟨r, hr, ready_record, key_up, ahead, head, Or.inr (Or.inr ⟨hold, bridged, current⟩)⟩
    refine ⟨fun gate ready img read later => ?_, fun gate ready img read now => ?_, fun gate => ?_,
      fun gate ready => ?_, fun gate ready fault => ?_⟩
    · refine ⟨_, exec_keyUp_keyed due hr gate ready read later, rfl, ?_⟩
      rw [State.keyedWith, State.becomeKeying_hold hold]
    · exact exec_keyUp_starts due hr gate ready read now
    · rw [← Sequencer.tailed_own hrow]
      exact exec_keyUp_dropped (u := s.latch .muted) due hr
        ((State.decideKeyUp_muted hr gate).trans
          (State.refuseKeyUp_hold (s := s.latch .muted) hold hrow short i _)) rfl
    · rw [← Sequencer.tailed_own hrow]
      exact exec_keyUp_dropped (u := s.latch .tx) due hr
        ((State.decideKeyUp_notReady hr gate ready).trans
          (State.refuseKeyUp_hold (s := s.latch .tx) hold hrow short i _)) rfl
    · rw [← Sequencer.tailed_own hrow]
      exact exec_keyUp_dropped (u := s.latch .store) due hr
        (State.decideKeyUp_fault_hold hr ready_record gate ready fault hold hrow short) rfl

end Sys2Proof.Machine
end

section
/-! SUPPORT. The order in which items are taken: nothing is lost, and the earlier of two comes first (R93, R121). -/

namespace Sys2Proof.Machine

/-! ### The number and the item taken first -/

theorem leastNumber_mem (x : Word16) (xs : List Word16) : leastNumber x xs ∈ x :: xs := by
  induction xs generalizing x with
  | nil => exact List.mem_singleton_self x
  | cons y ys ih =>
    rcases List.mem_cons.mp (ih (if y.toNat < x.toNat then y else x)) with e | there
    · rw [leastNumber, e]
      split <;> simp
    · exact List.mem_cons_of_mem _ (List.mem_cons_of_mem _ there)

/-- Of any numbers one is taken first (R93). -/
theorem exists_firstNumber {ns : List Word16} (h : ns ≠ []) : ∃ n ∈ ns, firstNumber ns = some n := by
  obtain ⟨n, rest, rfl⟩ := List.exists_cons_of_ne_nil h
  unfold firstNumber
  dsimp only
  split
  · next x found => exact ⟨x, List.mem_of_find?_eq_some found, rfl⟩
  · exact ⟨_, leastNumber_mem n rest, rfl⟩

theorem mem_of_mem_earliestItems {xs : List Item} {x : Item} (h : x ∈ earliestItems xs) : x ∈ xs := by
  unfold earliestItems at h
  dsimp only at h
  split at h
  · exact h
  · exact List.mem_of_mem_filter h

theorem earliestItems_ne_nil {xs : List Item} (h : xs ≠ []) : earliestItems xs ≠ [] := by
  unfold earliestItems
  dsimp only
  split
  · exact h
  · next some_left => simpa using some_left

/-- Of any items one of the earliest is taken first (R93, R108). -/
theorem exists_firstItem {xs : List Item} (h : xs ≠ []) : ∃ x ∈ earliestItems xs, firstItem xs = some x := by
  obtain ⟨n, hn, first⟩ := exists_firstNumber (ns := (earliestItems xs).map (·.number))
    (by simpa using earliestItems_ne_nil h)
  obtain ⟨y, hy, rfl⟩ := List.mem_map.mp hn
  unfold firstItem
  dsimp only
  rw [first]
  cases found : (earliestItems xs).find? (fun x => x.number == y.number) with
  | none => exact absurd (List.find?_eq_none.mp found y hy) (by simp)
  | some x => exact ⟨x, List.mem_of_find?_eq_some found, found⟩

theorem Instant.diff_self (x : Instant) : x.diff x = 0 := by simp [Instant.diff, secondDiff]

/-- An item earlier than every other, and none earlier than it, is the one taken first. -/
theorem firstItem_of_earlier {xs : List Item} {x : Item} (hx : x ∈ xs)
    (h : ∀ y ∈ xs, y ≠ x → x.time.earlier y.time = true ∧ y.time.earlier x.time = false) : firstItem xs = some x := by
  obtain ⟨y, hy, first⟩ := exists_firstItem (List.ne_nil_of_mem hx)
  have x_early : x ∈ xs.filter (fun a => xs.all (fun b => !(b.time.earlier a.time))) := by
    refine List.mem_filter.mpr ⟨hx, List.all_eq_true.mpr fun b hb => ?_⟩
    by_cases e : b = x
    · subst e
      simp [Instant.earlier, Instant.diff_self]
    · simp [(h b hb e).2]
  have y_early : xs.all (fun b => !(b.time.earlier y.time)) = true := by
    unfold earliestItems at hy
    dsimp only at hy
    rw [if_neg (by simpa using List.ne_nil_of_mem x_early)] at hy
    exact (List.mem_filter.mp hy).2
  by_cases e : y = x
  · rw [first, e]
  · have not_earlier := List.all_eq_true.mp y_early x hx
    simp [(h y (mem_of_mem_earliestItems hy) e).1] at not_earlier

/-! ### Items in order -/

theorem orderItems_nil (fuel : Nat) : orderItems fuel [] = [] := by
  cases fuel <;> rfl

theorem orderItems_succ {fuel : Nat} {xs : List Item} {x : Item} (h : firstItem xs = some x) :
    orderItems (fuel + 1) xs = x :: orderItems fuel (xs.filter (fun y => y.slot != x.slot)) := by
  simp only [orderItems, h]

/-- The order of items, long enough, holds the slot of each and no other. -/
theorem slot_mem_orderItems {fuel : Nat} {xs : List Item} (h : xs.length ≤ fuel) (i : Slot) :
    i ∈ (orderItems fuel xs).map (·.slot) ↔ i ∈ xs.map (·.slot) := by
  induction fuel generalizing xs with
  | zero => rw [List.length_eq_zero_iff.mp (Nat.le_zero.mp h), orderItems_nil]
  | succ n ih =>
    by_cases e : xs = []
    · rw [e, orderItems_nil]
    · obtain ⟨x, early, first⟩ := exists_firstItem e
      have hx := mem_of_mem_earliestItems early
      have shorter : (xs.filter (fun y => y.slot != x.slot)).length < xs.length :=
        List.length_filter_lt_length_iff_exists.mpr ⟨x, hx, by simp⟩
      rw [orderItems_succ first, List.map_cons, List.mem_cons, ih (by omega)]
      simp only [List.mem_map, List.mem_filter, bne_iff_ne]
      constructor
      · rintro (rfl | ⟨y, ⟨hy, -⟩, rfl⟩)
        · exact ⟨x, hx, rfl⟩
        · exact ⟨y, hy, rfl⟩
      · rintro ⟨y, hy, rfl⟩
        by_cases same : y.slot = x.slot
        · exact Or.inl same
        · exact Or.inr ⟨y, ⟨hy, same⟩, rfl⟩

/-- Of two items the earlier comes first, and the other after it. -/
theorem orderItems_pair {n : Nat} {xs : List Item} {x y : Item} (hx : x ∈ xs) (hy : y ∈ xs)
    (only : ∀ z ∈ xs, z = x ∨ z = y) (slots : x.slot ≠ y.slot) (first : x.time.earlier y.time = true)
    (second : y.time.earlier x.time = false) : orderItems (n + 2) xs = [x, y] := by
  have x_first : firstItem xs = some x := firstItem_of_earlier hx fun z hz e => by
    rcases only z hz with rfl | rfl
    · exact absurd rfl e
    · exact ⟨first, second⟩
  have rest : ∀ z, z ∈ xs.filter (fun z => z.slot != x.slot) ↔ z = y := fun z => by
    rw [List.mem_filter, bne_iff_ne]
    constructor
    · rintro ⟨hz, other⟩
      exact (only z hz).resolve_left fun e => other (by rw [e])
    · rintro rfl
      exact ⟨hy, slots.symm⟩
  have y_next : firstItem (xs.filter (fun z => z.slot != x.slot)) = some y :=
    firstItem_of_earlier ((rest y).mpr rfl) fun z hz e => absurd ((rest z).mp hz) e
  have none_left : (xs.filter (fun z => z.slot != x.slot)).filter (fun z => z.slot != y.slot) = [] :=
    List.filter_eq_nil_iff.mpr fun z hz => by simp [(rest z).mp hz]
  rw [orderItems_succ x_first, orderItems_succ y_next, none_left, orderItems_nil]

/-! ### The retirements at a step -/

/-- A record that retires, taken into the order of retirements (R121). -/
def State.retirementItem (s : State) (i : Slot) : Option Item :=
  match s.record i with
  | some r => if s.retirementDue i then some ⟨r.widenedEnd s.store.settings.guard, r.number, i⟩ else none
  | none => none

theorem State.retirementItem_of_due {s : State} {i : Slot} {r : Record} (hr : s.record i = some r)
    (due : s.retirementDue i = true) :
    s.retirementItem i = some ⟨r.widenedEnd s.store.settings.guard, r.number, i⟩ := by
  simp only [State.retirementItem, hr, due, if_true]

theorem State.retirementItem_eq_some {s : State} {i : Slot} {x : Item} (h : s.retirementItem i = some x) :
    s.retirementDue i = true ∧ x.slot = i := by
  unfold State.retirementItem at h
  split at h
  · split at h
    · next due =>
      cases h
      exact ⟨due, rfl⟩
    · cases h
  · cases h

/-- The records that retire, in slot order. -/
def State.retiringItems (s : State) : List Item := allSlots.filterMap s.retirementItem

theorem State.retiringSlots_eq (s : State) :
    s.retiringSlots = (orderItems Config.slots s.retiringItems).map (·.slot) := rfl

theorem State.mem_retiringItems (s : State) (x : Item) : x ∈ s.retiringItems ↔ s.retirementItem x.slot = some x := by
  rw [State.retiringItems, List.mem_filterMap]
  constructor
  · rintro ⟨i, -, h⟩
    rwa [(State.retirementItem_eq_some h).2]
  · exact fun h => ⟨x.slot, mem_allSlots _, h⟩

/-- The records that retire at a step are those whose retirement is due (R115, R121). -/
theorem State.mem_retiringSlots_iff (s : State) (i : Slot) : i ∈ s.retiringSlots ↔ s.retirementDue i = true := by
  have few : s.retiringItems.length ≤ Config.slots :=
    (List.length_filterMap_le _ _).trans (by simp [allSlots])
  rw [State.retiringSlots_eq, slot_mem_orderItems few, List.mem_map]
  constructor
  · rintro ⟨x, hx, rfl⟩
    exact (State.retirementItem_eq_some ((s.mem_retiringItems x).mp hx)).1
  · intro due
    obtain ⟨r, hr, -⟩ := (State.retirementDue_iff s i).mp due
    exact ⟨⟨r.widenedEnd s.store.settings.guard, r.number, i⟩,
      (s.mem_retiringItems _).mpr (State.retirementItem_of_due hr due), rfl⟩

/-- Of two retirements the earlier is taken first (R121). -/
theorem State.retiringSlots_pair {s : State} {i j : Slot} {a b : Record} (hij : i ≠ j) (ha : s.record i = some a)
    (hb : s.record j = some b) (only : ∀ e, s.retirementDue e = true ↔ e = i ∨ e = j)
    (first : (a.widenedEnd s.store.settings.guard).diff (b.widenedEnd s.store.settings.guard) < 0)
    (second : 0 ≤ (b.widenedEnd s.store.settings.guard).diff (a.widenedEnd s.store.settings.guard)) :
    s.retiringSlots = [i, j] := by
  have item_i := State.retirementItem_of_due ha ((only i).mpr (Or.inl rfl))
  have item_j := State.retirementItem_of_due hb ((only j).mpr (Or.inr rfl))
  have both : ∀ z ∈ s.retiringItems, z = ⟨a.widenedEnd s.store.settings.guard, a.number, i⟩ ∨
      z = ⟨b.widenedEnd s.store.settings.guard, b.number, j⟩ := fun z hz => by
    have hz' := (s.mem_retiringItems z).mp hz
    rcases (only z.slot).mp (State.retirementItem_eq_some hz').1 with e | e
    · exact Or.inl (Option.some.inj (hz'.symm.trans (by rw [e, item_i])))
    · exact Or.inr (Option.some.inj (hz'.symm.trans (by rw [e, item_j])))
  have not_second : ((b.widenedEnd s.store.settings.guard).earlier (a.widenedEnd s.store.settings.guard)) = false :=
    Bool.eq_false_iff.mpr fun e => by
      have := (Instant.earlier_iff _ _).mp e
      omega
  have ordered := orderItems_pair (n := 30) ((s.mem_retiringItems ⟨_, _, i⟩).mpr item_i)
    ((s.mem_retiringItems ⟨_, _, j⟩).mpr item_j) both hij ((Instant.earlier_iff _ _).mpr first) not_second
  exact (s.retiringSlots_eq).trans (congrArg (List.map Item.slot) ordered)

end Sys2Proof.Machine
end

section
/-! SUPPORT. The step of the clock: a record's turn in the pass, the switch before it, and the edge in ACQUIRING (R7 to R10,
R34, R121). -/

namespace Sys2Proof.Machine

/-! ### A record's turn in the pass (R121) -/

theorem dueAtStep_eq (p q : Instant) :
    dueAtStep p q = fun x => decide (0 < q.diff p ∧ 0 < x.diff p ∧ x.diff q ≤ 0) :=
  funext fun x => Bool.eq_iff_iff.mpr (by rw [dueAtStep_iff, decide_eq_true_eq])

theorem stepDeadline_of_due {p q : Instant} {s : State} {i : Slot} {r : Record} (hr : s.record i = some r)
    (h : r.state = .assembling ∧ r.late = false ∧ dueAtStep p q r.deadline = true) :
    stepDeadline p q s i = s.deadlineActs i := by
  simp only [stepDeadline, hr, if_pos h]

theorem stepDeadline_of_not_due {p q : Instant} {s : State} {i : Slot} {r : Record} (hr : s.record i = some r)
    (h : ¬ (r.state = .assembling ∧ r.late = false ∧ dueAtStep p q r.deadline = true)) : stepDeadline p q s i = s := by
  simp only [stepDeadline, hr, if_neg h]

theorem stepKeptEnd_of_due {p q : Instant} {s : State} {i : Slot} {r : Record} (hr : s.record i = some r)
    (h : r.state = .assembling ∧ r.late = true ∧ dueAtStep p q r.keptEnd = true) :
    stepKeptEnd p q s i = s.becomeShadow i .droppedLate := by
  simp only [stepKeptEnd, hr, if_pos h]

theorem stepKeptEnd_of_not_due {p q : Instant} {s : State} {i : Slot} {r : Record} (hr : s.record i = some r)
    (h : ¬ (r.state = .assembling ∧ r.late = true ∧ dueAtStep p q r.keptEnd = true)) : stepKeptEnd p q s i = s := by
  simp only [stepKeptEnd, hr, if_neg h]

theorem stepReady_of_ready {p q : Instant} {s : State} {i : Slot} {r : Record} (hr : s.record i = some r)
    (ready : r.state = .ready) : stepReady p q s i =
      if r.keptLaunch.passed q then s.becomeShadow i .droppedLate
      else if dueAtStep p q r.keptKeyUp = true ∧ s.keyUpDue i = true then s.decideKeyUp i
      else s := by
  simp only [stepReady, hr, if_pos ready]

theorem stepReady_of_not_ready {p q : Instant} {s : State} {i : Slot} {r : Record} (hr : s.record i = some r)
    (h : r.state ≠ .ready) : stepReady p q s i = s := by
  simp only [stepReady, hr, if_neg h]

/-- What a record that becomes SHADOW then is. -/
theorem State.record_becomeShadow_self {s : State} {i : Slot} {r : Record} (hr : s.record i = some r) (o : BatchOutcome) :
    ∃ w, (s.becomeShadow i o).record i = some w ∧ w.state = .shadow := by
  have shadow := State.isShadow_becomeShadow hr o
  cases there : (s.becomeShadow i o).record i with
  | none => simp [State.isShadow, there] at shadow
  | some w => exact ⟨w, rfl, by simpa [State.isShadow, there] using shadow⟩

/-- A READY record's turn is its last part alone. -/
theorem stepRecord_of_not_assembling (p q : Instant) {s : State} {i : Slot} {r : Record} (hr : s.record i = some r)
    (h : r.state ≠ .assembling) : stepRecord p q s i = stepReady p q s i := by
  rw [stepRecord_eq, stepDeadline_of_not_due hr fun c => h c.1, stepKeptEnd_of_not_due hr fun c => h c.1]

/-- A record made SHADOW at its kept end or before has no further part in the pass. -/
theorem stepReady_becomeShadow (p q : Instant) {s : State} {i : Slot} {r : Record} (hr : s.record i = some r)
    (o : BatchOutcome) : stepReady p q (s.becomeShadow i o) i = s.becomeShadow i o := by
  obtain ⟨w, there, shadow⟩ := State.record_becomeShadow_self hr o
  exact stepReady_of_not_ready there (by simp [shadow])

theorem stepKeptEnd_becomeShadow (p q : Instant) {s : State} {i : Slot} {r : Record} (hr : s.record i = some r)
    (o : BatchOutcome) : stepKeptEnd p q (s.becomeShadow i o) i = s.becomeShadow i o := by
  obtain ⟨w, there, shadow⟩ := State.record_becomeShadow_self hr o
  exact stepKeptEnd_of_not_due there (by simp [shadow])

/-- After its deadline's part, a record still ASSEMBLING is dropped at its kept end when it is late, or it stays (R109, R112). -/
theorem stepReady_stepKeptEnd (p q : Instant) {s : State} {i : Slot} {r : Record} (hr : s.record i = some r)
    (assembling : r.state = .assembling) : stepReady p q (stepKeptEnd p q s i) i =
      if r.late = true ∧ dueAtStep p q r.keptEnd = true then s.becomeShadow i .droppedLate else s := by
  by_cases due : r.late = true ∧ dueAtStep p q r.keptEnd = true
  · rw [stepKeptEnd_of_due hr ⟨assembling, due⟩, stepReady_becomeShadow p q hr, if_pos due]
  · rw [stepKeptEnd_of_not_due hr fun c => due c.2, stepReady_of_not_ready hr (by simp [assembling]), if_neg due]

theorem stepRecord_of_deadline_drop {p q : Instant} {s : State} {i : Slot} {r : Record} (hr : s.record i = some r)
    (assembling : r.state = .assembling) (early : r.late = false) (due : dueAtStep p q r.deadline = true)
    (policy : r.row.late = .drop) : stepRecord p q s i = s.becomeShadow i .droppedIncomplete := by
  have acts : s.deadlineActs i = s.becomeShadow i .droppedIncomplete := by
    simp only [State.deadlineActs, hr, policy, LatePolicy.drops, if_true]
  rw [stepRecord_eq, stepDeadline_of_due hr ⟨assembling, early, due⟩, acts, stepKeptEnd_becomeShadow p q hr,
    stepReady_becomeShadow p q hr]

theorem stepRecord_of_deadline_join {p q : Instant} {s : State} {i : Slot} {r : Record} (hr : s.record i = some r)
    (assembling : r.state = .assembling) (early : r.late = false) (due : dueAtStep p q r.deadline = true)
    (policy : r.row.late = .join) : stepRecord p q s i =
      if dueAtStep p q r.keptEnd then (s.setRecord i { r with late := true }).becomeShadow i .droppedLate
      else s.setRecord i { r with late := true } := by
  have acts : s.deadlineActs i = s.setRecord i { r with late := true } := by
    simp only [State.deadlineActs, hr, policy, LatePolicy.drops, Bool.false_eq_true, if_false]
  have marked : (s.setRecord i { r with late := true }).record i = some { r with late := true } := by
    rw [State.record_setRecord, if_pos rfl]
  rw [stepRecord_eq, stepDeadline_of_due hr ⟨assembling, early, due⟩, acts, stepReady_stepKeptEnd p q marked assembling]
  simp only [true_and]
  rfl

theorem stepRecord_of_no_deadline {p q : Instant} {s : State} {i : Slot} {r : Record} (hr : s.record i = some r)
    (assembling : r.state = .assembling) (none_due : r.late = false → dueAtStep p q r.deadline = false) :
    stepRecord p q s i =
      if r.late = true ∧ dueAtStep p q r.keptEnd = true then s.becomeShadow i .droppedLate else s := by
  rw [stepRecord_eq, stepDeadline_of_not_due hr fun c => by simp [none_due c.2.1] at c,
    stepReady_stepKeptEnd p q hr assembling]

theorem stepRecord_of_missed {p q : Instant} {s : State} {i : Slot} {r : Record} (hr : s.record i = some r)
    (ready : r.state = .ready) (passed : r.keptLaunch.diff q < 0) :
    stepRecord p q s i = s.becomeShadow i .droppedLate := by
  rw [stepRecord_of_not_assembling p q hr (by simp [ready]), stepReady_of_ready hr ready,
    if_pos ((Instant.passed_iff _ _).mpr passed)]

/-- A READY record whose launch has not passed is decided in its turn when its key-up came due and can be decided (R139). -/
theorem stepRecord_of_ready {p q : Instant} {s : State} {i : Slot} {r : Record} (hr : s.record i = some r)
    (ready : r.state = .ready) (ahead : 0 ≤ r.keptLaunch.diff q) :
    stepRecord p q s i = if dueAtStep p q r.keptKeyUp = true ∧ s.keyUpDue i = true then s.decideKeyUp i else s := by
  have not_passed : ¬ r.keptLaunch.passed q = true := by simp [(Instant.not_passed_iff _ _).mpr ahead]
  rw [stepRecord_of_not_assembling p q hr (by simp [ready]), stepReady_of_ready hr ready, if_neg not_passed]

theorem stepRecord_of_settled {p q : Instant} {s : State} {i : Slot} {r : Record} (hr : s.record i = some r)
    (h : r.state = .keying ∨ r.state = .onAir ∨ r.state = .shadow) : stepRecord p q s i = s := by
  have quiet : r.state ≠ .assembling ∧ r.state ≠ .ready := by
    rcases h with h | h | h <;> simp [h]
  rw [stepRecord_of_not_assembling p q hr quiet.1, stepReady_of_not_ready hr quiet.2]

/-- When the key-up decision of a given record is due (R113, R137, R139, R145). -/
theorem State.keyUpDue_iff_of_record {s : State} {i : Slot} {r : Record} (hr : s.record i = some r) :
    s.keyUpDue i = true ↔ r.state = .ready ∧ r.keptKeyUp.diff s.time.clock ≤ 0
      ∧ 0 ≤ (r.launch.add (ticksOf r.inc r.j)).diff s.time.clock ∧ s.headReady = some i
      ∧ (s.keying.state = .idle ∨ s.keying.state = .tail
        ∨ (s.keying.state = .hold ∧ s.keying.bridged = some i ∧ s.keying.current = none)) := by
  rw [State.keyUpDue_iff, hr]
  simp only [Option.some.injEq, exists_eq_left']

/-! ### The switch and the pass at a step -/

/-- The entry to LOCKED from another state counts no alarm (R8). -/
theorem State.enterLocked_eq {s : State} (h : s.time.state ≠ .locked) : s.enterLocked =
    { s with time := { s.time with
      u := 0, run := 0, outliers := 0, qualityZero := 0, stepPending := false, state := .locked } } := by
  unfold State.enterLocked
  exact State.setClockState_quiet (by exact h) _

/-- The state at a step once the clock is set and LOCKED entered (R9, R10). -/
def State.stepped (s : State) (second : Word32) : State :=
  { s with time := { s.time with
    clock := ⟨second, 0⟩, u := 0, run := 0, outliers := 0, qualityZero := 0, stepPending := false, state := .locked } }

theorem State.stepClock_eq {s : State} (h : s.time.state ≠ .locked) (second : Word32) :
    s.stepClock second = (if (s.stepped second).switchDue then (s.stepped second).takeSwitch
      else s.stepped second).stepPass s.time.clock ⟨second, 0⟩ := by
  have entered : ({ s with time := { s.time with clock := ⟨second, 0⟩ } } : State).enterLocked = s.stepped second :=
    State.enterLocked_eq (by exact h)
  simp only [State.stepClock, entered]

/-- At a step a pending switch is due by its instant alone: the unit is LOCKED (R34). -/
theorem State.switchDue_stepped (s : State) (second : Word32) :
    (s.stepped second).switchDue = true
      ↔ ∃ p, s.store.pending = some p ∧ Instant.diff ⟨p.second, 0⟩ ⟨second, 0⟩ ≤ 0 := by
  rw [State.switchDue_iff]
  simp [State.stepped]

/-- The switch at a step: the target is active and no record depends on the old profile (R28, R34). -/
theorem State.takeSwitch_stepped {s : State} {second : Word32} {w : PendingSwitch} (h : s.store.pending = some w) :
    (s.stepped second).takeSwitch =
      { s.stepped second with
        store := { s.store with active := w.target, pending := none }
        table := s.table.map (fun o => o.map (fun r => { r with dependent := false })) } := by
  have pending : (s.stepped second).store.pending = some w := h
  simp only [State.takeSwitch, pending]
  rfl

/-! ### The edge in ACQUIRING -/

theorem State.edgeTaken_store (s : State) : s.edgeTaken.store = s.store := by
  rw [State.edgeTaken_eq]
  split <;> rfl

theorem exec_ppsEdge_acquiring {s : State} {e : Bool} (h : s.time.state = .acquiring e) :
    exec .ppsEdge s = .next (s.edgeTaken.edgeAcquiring s.time) := by
  simp only [exec, execPpsEdge, State.ppsEdge, h]

theorem State.runCounted_edgeTaken (s : State) : s.edgeTaken.runCounted s.time =
    { s.edgeTaken with time := { s.edgeTaken.time with
      run := s.time.nextRun, stepPending := s.time.edgeExtends && s.time.stepPending } } := by
  have kept : s.edgeTaken.time.stepPending = s.time.stepPending := by rw [State.edgeTaken_time]
  unfold State.runCounted
  cases s.time.edgeExtends <;> simp [kept]

/-- An extending edge is a fixed one, with the TOD second after the previous one and a good spacing (R7). -/
theorem edgeExtends_iff (t : TimeUnit) : t.edgeExtends = true ↔
    1 ≤ t.run ∧ t.refPresent = true
      ∧ (∃ m p, t.coming = some m ∧ m.fix = true ∧ t.previous = some p ∧ m.second = p + 1)
      ∧ ∃ n, t.spacing = some n ∧ 9999999 ≤ n ∧ n ≤ 10000001 := by
  have spacing : t.spacingGood = true ↔ ∃ n, t.spacing = some n ∧ 9999999 ≤ n ∧ n ≤ 10000001 := by
    unfold TimeUnit.spacingGood
    cases t.spacing <;> simp
  have next : t.edgeFixed = true ∧ t.consecutive = true ↔ t.refPresent = true
      ∧ ∃ m p, t.coming = some m ∧ m.fix = true ∧ t.previous = some p ∧ m.second = p + 1 := by
    rw [edgeFixed_iff, TimeUnit.consecutive]
    cases t.coming <;> cases t.previous <;> simp [and_assoc]
  simp only [TimeUnit.edgeExtends, Bool.and_eq_true, decide_eq_true_eq, spacing, and_assoc]
  rw [← and_assoc (a := t.edgeFixed = true), next, and_assoc]

/-- A run other than 0 has a message for its edge (R7). -/
theorem TimeUnit.coming_of_nextRun {t : TimeUnit} (h : t.nextRun ≠ 0) : ∃ m, t.coming = some m := by
  by_cases ext : t.edgeExtends = true
  · obtain ⟨-, -, ⟨m, -, coming, -⟩, -⟩ := (edgeExtends_iff t).mp ext
    exact ⟨m, coming⟩
  · by_cases fixed : t.edgeFixed = true
    · obtain ⟨-, m, coming, -⟩ := (edgeFixed_iff t).mp fixed
      exact ⟨m, coming⟩
    · simp [TimeUnit.nextRun, ext, fixed] at h

/-- The run short of the acquisition count, or 0 (R7; log 13). -/
theorem State.edgeAcquiring_short {s : State} {t : TimeUnit} (h : t.nextRun = 0 ∨ t.nextRun < s.store.settings.acqCount) :
    s.edgeAcquiring t = s.runCounted t := by
  rw [State.edgeAcquiring_eq]
  split
  · rfl
  · rw [if_pos h]

/-- The run at the acquisition count: the clean entry, the step or the step-pending flag (R8, R9). -/
theorem State.edgeAcquiring_reached {s : State} {t : TimeUnit} {m : TodMsg} (hm : t.coming = some m)
    (some_run : t.nextRun ≠ 0) (reached : s.store.settings.acqCount ≤ t.nextRun) : s.edgeAcquiring t =
      if t.edgeClean then (s.runCounted t).enterLocked
      else if s.keying.state = .idle then (s.runCounted t).stepClock m.second
      else { s.runCounted t with time := { (s.runCounted t).time with stepPending := true } } := by
  rw [State.edgeAcquiring_eq]
  simp only [hm]
  rw [if_neg (by omega)]

/-- The step an edge takes: the clock at the TOD second, the switch then reached, and the pass (R9, R10, R34, R121). -/
theorem State.edgeAcquiring_steps {s : State} {e : Bool} (acquiring : s.time.state = .acquiring e) {m : TodMsg}
    (hm : s.time.coming = some m) (some_run : s.time.nextRun ≠ 0)
    (reached : s.store.settings.acqCount ≤ s.time.nextRun) (unclean : s.time.edgeClean = false)
    (idle : s.keying.state = .idle) : s.edgeTaken.edgeAcquiring s.time =
      (if (s.edgeTaken.stepped m.second).switchDue then (s.edgeTaken.stepped m.second).takeSwitch
        else s.edgeTaken.stepped m.second).stepPass s.time.clock ⟨m.second, 0⟩ := by
  have not_locked : (s.edgeTaken.runCounted s.time).time.state ≠ .locked := by
    simp [State.runCounted, State.edgeTaken_time, acquiring]
  have clock : (s.edgeTaken.runCounted s.time).time.clock = s.time.clock := by
    simp [State.runCounted, State.edgeTaken_time]
  rw [State.edgeAcquiring_reached hm some_run (by rwa [State.edgeTaken_store]), if_neg (by simp [unclean]),
    if_pos (by rwa [State.edgeTaken_keying]), State.stepClock_eq not_locked, clock]
  rfl

/-- Settles O28: the edge in ACQUIRING, the step's pass and a record's turn in it. -/
theorem edgeJudgedInAcquisition : Obligations.EdgeJudgedInAcquisition := by
  unfold Obligations.EdgeJudgedInAcquisition
  refine ⟨fun s e run acquiring counted => ?_, edgeExtends_iff, edgeClean_iff, fun s p q => ?_, fun s p q i r hr => ?_⟩
  · have counted : run = s.time.nextRun := counted
    subst counted
    have settings : s.edgeTaken.store.settings.acqCount = s.store.settings.acqCount := by rw [State.edgeTaken_store]
    have not_locked : (s.edgeTaken.runCounted s.time).time.state ≠ .locked := by
      simp [State.runCounted, State.edgeTaken_time, acquiring]
    rw [exec_ppsEdge_acquiring acquiring]
    refine ⟨fun short => ?_, fun some_run reached clean => ?_, fun some_run reached unclean busy => ?_,
      fun m some_run reached unclean idle hm => ?_⟩
    · rw [State.edgeAcquiring_short (by rwa [settings]), State.runCounted_edgeTaken]
    · obtain ⟨m, hm⟩ := TimeUnit.coming_of_nextRun some_run
      rw [State.edgeAcquiring_reached hm some_run (by rwa [settings]), if_pos clean, State.enterLocked_eq not_locked,
        State.runCounted_edgeTaken]
    · obtain ⟨m, hm⟩ := TimeUnit.coming_of_nextRun some_run
      rw [State.edgeAcquiring_reached hm some_run (by rwa [settings]), if_neg (by simp [unclean]),
        if_neg (by rwa [State.edgeTaken_keying]), State.runCounted_edgeTaken]
    · rw [State.edgeAcquiring_steps acquiring hm some_run reached unclean idle]
      have switch := s.edgeTaken.switchDue_stepped m.second
      rw [State.edgeTaken_store] at switch
      refine ⟨fun later => ?_, fun w pending due => ?_⟩
      · rw [if_neg fun c => ?_]
        · rfl
        · obtain ⟨w, pending, due⟩ := switch.mp c
          have := later w pending
          omega
      · have taken := State.takeSwitch_stepped (s := s.edgeTaken) (second := m.second) (w := w)
          (by rwa [State.edgeTaken_store])
        rw [State.edgeTaken_store, State.edgeTaken_table] at taken
        rw [if_pos (switch.mpr ⟨w, pending, due⟩), taken]
        rfl
  · refine ⟨fun back => if_pos back, fun forward => if_neg (by omega), s.retirementDue_iff, fun i due => ?_,
      s.mem_retiringSlots_iff, fun i j a b hij ha hb only first second => ?_⟩
    · exact congrArg Host.Outcome.next (if_pos due)
    · exact State.retiringSlots_pair hij ha hb only first second
  · intro due late keptEnd keptLaunch
    have due_eq : dueAtStep p q = due := dueAtStep_eq p q
    clear_value due
    subst due_eq
    refine ⟨stepRecord_of_deadline_drop hr, stepRecord_of_deadline_join hr,
      fun assembling is_late ended => ?_, fun assembling none_due not_over => ?_, fun ready passed => ?_,
      fun ready ahead key_up => ?_, ?_, fun key_up => ?_, fun ready ahead no_key_up => ?_, fun settled => ?_⟩
    · rw [stepRecord_of_no_deadline hr assembling (by simp [is_late]), if_pos ⟨is_late, ended⟩]
    · rw [stepRecord_of_no_deadline hr assembling none_due, if_neg]
      rintro ⟨is_late, ended⟩
      exact absurd ended (Bool.eq_false_iff.mp (not_over is_late))
    · exact stepRecord_of_missed hr ready passed
    · rw [stepRecord_of_ready hr ready ahead]
      exact ⟨fun decided => if_pos ⟨key_up, decided⟩, fun waits => if_neg fun c => by simp [waits] at c⟩
    · exact State.keyUpDue_iff_of_record hr
    · intro t
      refine ⟨fun ⟨o, there, shadow⟩ => ?_, fun kept => ?_⟩
      · exact exec_keyUp_refused key_up ((State.isShadow_eq there).trans (decide_eq_true shadow))
      · refine exec_keyUp_kept key_up ?_
        cases there : (s.decideKeyUp i).record i with
        | none => simp [State.isShadow, there]
        | some o => exact (State.isShadow_eq there).trans (decide_eq_false (kept o there))
    · rw [stepRecord_of_ready hr ready ahead, if_neg fun c => ?_]
      exact Bool.eq_false_iff.mp no_key_up c.1
    · exact stepRecord_of_settled hr settled

end Sys2Proof.Machine
end

section
/-! SUPPORT. Bytes of numbers and fields of a run of bytes: each reads back as the other (R177). -/

namespace Sys2Proof.Machine

/-! ### Bytes of a number -/

@[simp] theorem length_bytesOf (n v : Nat) : (bytesOf n v).length = n := by
  induction n with
  | zero => rfl
  | succ n ih => simp [bytesOf, ih]

@[simp] theorem length_signedBytes (n : Nat) (v : Int) : (signedBytes n v).length = n := length_bytesOf _ _

theorem bytesOf_one (v : Nat) : bytesOf 1 v = [BitVec.ofNat 8 v] := by simp [bytesOf]

theorem bytesOf_two (v : Nat) : bytesOf 2 v = [BitVec.ofNat 8 (v / 256), BitVec.ofNat 8 v] := by simp [bytesOf]

theorem bytesOf_four (v : Nat) : bytesOf 4 v =
    [BitVec.ofNat 8 (v / 16777216), BitVec.ofNat 8 (v / 65536), BitVec.ofNat 8 (v / 256), BitVec.ofNat 8 v] := by
  simp [bytesOf]

theorem bytesOf_word (w : Word16) : bytesOf 2 w.toNat = [w.extractLsb' 8 8, w.extractLsb' 0 8] := by
  rw [bytesOf_two]
  simp [BitVec.extractLsb', Nat.shiftRight_eq_div_pow]

theorem foldl_bytes (bs : List Byte) (a : Nat) :
    bs.foldl (fun v b => v * 256 + b.toNat) a = a * 256 ^ bs.length + unsignedOf bs := by
  induction bs generalizing a with
  | nil => simp [unsignedOf]
  | cons b bs ih =>
    have whole : unsignedOf (b :: bs) = (0 * 256 + b.toNat) * 256 ^ bs.length + unsignedOf bs := ih _
    rw [List.foldl_cons, ih, whole, List.length_cons]
    ring

theorem unsignedOf_cons (b : Byte) (bs : List Byte) :
    unsignedOf (b :: bs) = b.toNat * 256 ^ bs.length + unsignedOf bs := by
  rw [← foldl_bytes]
  simp [unsignedOf]

@[simp] theorem unsignedOf_single (b : Byte) : unsignedOf [b] = b.toNat := by simp [unsignedOf]

theorem unsignedOf_lt (bs : List Byte) : unsignedOf bs < 256 ^ bs.length := by
  induction bs with
  | nil => simp [unsignedOf]
  | cons b bs ih =>
    have byte : b.toNat * 256 ^ bs.length ≤ 255 * 256 ^ bs.length := Nat.mul_le_mul_right _ (by have := b.isLt; omega)
    rw [unsignedOf_cons, List.length_cons, pow_succ]
    omega

/-- A number is spelled by its bytes as far as they reach. -/
@[simp] theorem unsignedOf_bytesOf (n v : Nat) : unsignedOf (bytesOf n v) = v % 256 ^ n := by
  induction n with
  | zero => simp [bytesOf, unsignedOf, Nat.mod_one]
  | succ n ih =>
    rw [bytesOf, unsignedOf_cons, ih, length_bytesOf, pow_succ, Nat.mod_mul, BitVec.toNat_ofNat]
    ring

/-- Two runs of one length that spell one number are the same. -/
theorem unsignedOf_injective {as bs : List Byte} (len : as.length = bs.length)
    (spelled : unsignedOf as = unsignedOf bs) : as = bs := by
  induction as generalizing bs with
  | nil => exact (List.length_eq_zero_iff.mp len.symm).symm
  | cons a as ih =>
    cases bs with
    | nil => cases len
    | cons b bs =>
      have tails : as.length = bs.length := by simpa using len
      have below := unsignedOf_lt as
      have below' := unsignedOf_lt bs
      rw [unsignedOf_cons, unsignedOf_cons, tails] at spelled
      rw [tails] at below
      have heads : a.toNat = b.toNat := by
        have quotients := congrArg (· / 256 ^ bs.length) spelled
        simpa [Nat.mul_comm _ (256 ^ bs.length), Nat.mul_add_div (Nat.pos_of_ne_zero _), Nat.div_eq_of_lt below,
          Nat.div_eq_of_lt below'] using quotients
      rw [heads] at spelled
      rw [BitVec.eq_of_toNat_eq heads, ih tails (by omega)]

/-- A run of bytes is the bytes of the number it spells. -/
theorem bytesOf_unsignedOf (bs : List Byte) : bytesOf bs.length (unsignedOf bs) = bs :=
  unsignedOf_injective (length_bytesOf _ _) (by rw [unsignedOf_bytesOf, Nat.mod_eq_of_lt (unsignedOf_lt bs)])

/-! ### Two's complement -/

theorem signedOf_bounds (bs : List Byte) :
    -(256 ^ bs.length : Nat) ≤ 2 * signedOf bs ∧ 2 * signedOf bs < (256 ^ bs.length : Nat) := by
  have below := unsignedOf_lt bs
  unfold signedOf
  dsimp only
  split <;> omega

/-- A signed value that its bytes can hold reads back. -/
theorem signedOf_signedBytes {n : Nat} {v : Int} (lo : -(256 ^ n : Nat) ≤ 2 * v) (hi : 2 * v < (256 ^ n : Nat)) :
    signedOf (signedBytes n v) = v := by
  have pos : 0 < 256 ^ n := by positivity
  unfold signedOf signedBytes
  rw [unsignedOf_bytesOf, length_bytesOf]
  generalize 256 ^ n = M at *
  have residue : v % M = if 0 ≤ v then v else v + M := by
    split
    · exact Int.emod_eq_of_lt ‹_› (by omega)
    · rw [← Int.add_emod_right]
      exact Int.emod_eq_of_lt (by omega) (by omega)
  rw [residue, Nat.mod_eq_of_lt (by split <;> omega)]
  dsimp only
  split <;> split <;> omega

/-- The two's complement bytes of the signed value of a run are the run. -/
theorem signedBytes_signedOf (bs : List Byte) : signedBytes bs.length (signedOf bs) = bs := by
  have below := unsignedOf_lt bs
  have residue : signedOf bs % (256 ^ bs.length : Nat) = unsignedOf bs := by
    unfold signedOf
    dsimp only
    split
    · exact Int.emod_eq_of_lt (by omega) (by omega)
    · rw [Int.sub_emod_right]
      exact Int.emod_eq_of_lt (by omega) (by omega)
  rw [signedBytes, residue, Int.toNat_natCast, bytesOf_unsignedOf]

/-! ### Fields -/

theorem length_fieldAt {bs : List Byte} {off n : Nat} (h : off + n ≤ bs.length) : (fieldAt bs off n).length = n := by
  simp only [fieldAt, List.length_take, List.length_drop]
  omega

@[simp] theorem fieldAt_whole {bs : List Byte} {n : Nat} (h : bs.length = n) : fieldAt bs 0 n = bs := by
  simp [fieldAt, ← h]

@[simp] theorem fieldAt_append_left {as bs : List Byte} {off n : Nat} (h : off + n ≤ as.length) :
    fieldAt (as ++ bs) off n = fieldAt as off n := by
  rw [fieldAt, List.drop_append_of_le_length (by omega), List.take_append_of_le_length (by simp; omega)]
  rfl

@[simp] theorem fieldAt_append_right {as bs : List Byte} {off n : Nat} (h : as.length ≤ off) :
    fieldAt (as ++ bs) off n = fieldAt bs (off - as.length) n := by
  simp [fieldAt, List.drop_append, List.drop_eq_nil_of_le h]

@[simp] theorem fieldAt_cons_of_pos {b : Byte} {bs : List Byte} {off n : Nat} (h : 0 < off) :
    fieldAt (b :: bs) off n = fieldAt bs (off - 1) n := fieldAt_append_right (as := [b]) h

@[simp] theorem fieldAt_cons_zero (b : Byte) (bs : List Byte) (n : Nat) :
    fieldAt (b :: bs) 0 (n + 1) = b :: fieldAt bs 0 n := rfl

@[simp] theorem fieldAt_no_bytes (bs : List Byte) (off : Nat) : fieldAt bs off 0 = [] := rfl

/-- Two fields side by side are one. -/
theorem fieldAt_join {bs : List Byte} {off off' n m : Nat} (next : off' = off + n) :
    fieldAt bs off n ++ fieldAt bs off' m = fieldAt bs off (n + m) := by
  subst next
  simp only [fieldAt, List.take_add, List.drop_drop]

theorem natAt_lt {bs : List Byte} {off n : Nat} (h : off + n ≤ bs.length) : natAt bs off n < 256 ^ n := by
  simpa [natAt, length_fieldAt h] using unsignedOf_lt (fieldAt bs off n)

/-- The bytes of a field's number are the field. -/
theorem bytesOf_natAt {bs : List Byte} {off n : Nat} (h : off + n ≤ bs.length) :
    bytesOf n (natAt bs off n) = fieldAt bs off n := by
  simpa [natAt, length_fieldAt h] using bytesOf_unsignedOf (fieldAt bs off n)

theorem signedBytes_intAt {bs : List Byte} {off n : Nat} (h : off + n ≤ bs.length) :
    signedBytes n (intAt bs off n) = fieldAt bs off n := by
  simpa [intAt, length_fieldAt h] using signedBytes_signedOf (fieldAt bs off n)

theorem intAt_bounds {bs : List Byte} {off n : Nat} (h : off + n ≤ bs.length) :
    -(256 ^ n : Nat) ≤ 2 * intAt bs off n ∧ 2 * intAt bs off n < (256 ^ n : Nat) := by
  simpa [intAt, length_fieldAt h] using signedOf_bounds (fieldAt bs off n)

/-- A 16-bit word held in two bytes of a run. -/
theorem bytesOf_wordAt {bs : List Byte} {off : Nat} (h : off + 2 ≤ bs.length) :
    bytesOf 2 (natAt bs off 2 % 65536) = fieldAt bs off 2 := by
  have below : natAt bs off 2 < 65536 := natAt_lt h
  rw [Nat.mod_eq_of_lt below, bytesOf_natAt h]

theorem byteAt_eq {bs : List Byte} {off : Nat} (h : off + 1 ≤ bs.length) :
    [BitVec.ofNat 8 (natAt bs off 1)] = fieldAt bs off 1 := by
  rw [← bytesOf_one, bytesOf_natAt h]

/-! ### Rows of one size -/

/-- The row at a place of a table, in the bytes of the table. -/
theorem fieldAt_flatMap {α : Type} {f : α → List Byte} {size : Nat} {xs : List α} (sized : ∀ x ∈ xs, (f x).length = size)
    {i : Nat} (h : i < xs.length) : fieldAt (xs.flatMap f) (size * i) size = f xs[i] := by
  induction xs generalizing i with
  | nil => cases h
  | cons x xs ih =>
    have first := sized x (by simp)
    rw [List.flatMap_cons]
    cases i with
    | zero =>
      rw [Nat.mul_zero, fieldAt_append_left (by omega), fieldAt_whole first]
      rfl
    | succ i =>
      rw [fieldAt_append_right (by rw [first, Nat.mul_succ]; omega), first, Nat.mul_succ, Nat.add_sub_cancel,
        ih (fun y hy => sized y (by simp [hy])) (by simpa using h)]
      rfl

theorem length_flatMap_sized {α : Type} {f : α → List Byte} {size : Nat} {xs : List α}
    (sized : ∀ x ∈ xs, (f x).length = size) : (xs.flatMap f).length = size * xs.length := by
  induction xs with
  | nil => rfl
  | cons x xs ih =>
    rw [List.flatMap_cons, List.length_append, ih (fun y hy => sized y (by simp [hy])), sized x (by simp),
      List.length_cons, Nat.mul_succ, Nat.add_comm]

/-- Rows cut from a run one after another make up the run. -/
theorem flatten_fields (bs : List Byte) (off size n : Nat) :
    (List.ofFn fun i : Fin n => fieldAt bs (off + size * i.val) size).flatten = fieldAt bs off (size * n) := by
  induction n with
  | zero => simp [fieldAt]
  | succ n ih =>
    rw [List.ofFn_succ', List.concat_eq_append, List.flatten_append]
    simp only [Fin.val_castSucc, ih, Fin.val_last, List.flatten_cons, List.flatten_nil, List.append_nil]
    rw [fieldAt_join rfl, Nat.mul_succ]

end Sys2Proof.Machine
end

section
/-! SUPPORT. The rows of the tables and the image of a profile, written and read: each row as it stands in its bytes, and what
clamping makes of it (R20 to R25, R30, R31, R35, R177, R179). -/

namespace Sys2Proof.Machine

/-! ### Codes -/

theorem preferredOf_code {p : Preferred} (listed : p.listed = true) : preferredOf p.code = p := by
  cases p with
  | link l => cases l <;> rfl
  | unlisted c => cases listed

theorem levelSetOf_code {v : LevelSet} (listed : v.listed = true) : levelSetOf v.code = v := by
  cases v with
  | four => rfl
  | two => rfl
  | unlisted c => cases listed

theorem latePolicyOf_code {v : LatePolicy} (listed : v.listed = true) : latePolicyOf v.code = v := by
  cases v with
  | drop => rfl
  | join => rfl
  | unlisted c => cases listed

theorem zoneModeOf_code {v : ZoneMode} (listed : v.listed = true) : zoneModeOf v.code = v := by
  cases v with
  | off => rfl
  | track => rfl
  | launch => rfl
  | unlisted c => cases listed

@[simp] theorem code_preferredOf (b : Byte) : (preferredOf b).code = b := by
  unfold preferredOf linkOf
  split_ifs <;> simp_all [Preferred.code, linkCode]

@[simp] theorem code_levelSetOf (b : Byte) : (levelSetOf b).code = b := by
  unfold levelSetOf
  split_ifs <;> simp_all [LevelSet.code]

@[simp] theorem code_latePolicyOf (b : Byte) : (latePolicyOf b).code = b := by
  unfold latePolicyOf
  split_ifs <;> simp_all [LatePolicy.code]

@[simp] theorem code_zoneModeOf (b : Byte) : (zoneModeOf b).code = b := by
  unfold zoneModeOf
  split_ifs <;> simp_all [ZoneMode.code]

theorem listed_preferredOf (b : Byte) : (preferredOf b).listed = true ↔ b.toNat ≤ 1 := by
  revert b
  decide

theorem listed_levelSetOf (b : Byte) : (levelSetOf b).listed = true ↔ b.toNat ≤ 1 := by
  revert b
  decide

theorem listed_latePolicyOf (b : Byte) : (latePolicyOf b).listed = true ↔ b.toNat ≤ 1 := by
  revert b
  decide

theorem listed_zoneModeOf (b : Byte) : (zoneModeOf b).listed = true ↔ b.toNat ≤ 2 := by
  revert b
  decide

/-! ### Four words of a row -/

theorem toList_four {α : Type} (v : Vector α 4) : v.toList = [v.get 0, v.get 1, v.get 2, v.get 3] := by
  refine List.ext_getElem (by simp) fun i h _ => ?_
  have : i < 4 := by simpa using h
  interval_cases i <;> rfl

theorem get_ofFn {α : Type} {n : Nat} (f : Fin n → α) (i : Fin n) : (Vector.ofFn f).get i = f i := by
  simp [Vector.get]
  rfl

theorem ofNat_word (w : Word16) : BitVec.ofNat 16 (w.toNat % 65536) = w := by
  rw [Nat.mod_eq_of_lt w.isLt, BitVec.ofNat_toNat, BitVec.setWidth_eq]

/-- A table is made of its entries. -/
theorem ofFn_eq {α : Type} {n : Nat} {f : Fin n → α} {v : Vector α n} (h : ∀ i, f i = v.get i) : Vector.ofFn f = v := by
  refine Vector.ext fun i hi => ?_
  rw [Vector.getElem_ofFn, h]
  rfl

/-! ### The settings row -/

theorem length_settingsBytes (t : Settings) : (settingsBytes t).length = 35 := by
  simp [settingsBytes, toList_four]

/-- A settings row read back: each number as far as its bytes hold it. -/
theorem settingsOf_settingsBytes (t : Settings) : settingsOf (settingsBytes t) = { t with
    rateA := t.rateA % 256
    rateB := t.rateB % 256
    preferred := preferredOf t.preferred.code
    rotation := t.rotation % 256
    gapLimit := t.gapLimit % 256
    silence := t.silence % 256
    setupMargin := t.setupMargin % 4294967296
    maxLead := t.maxLead % 256
    guard := t.guard % 4294967296
    bridgeLimit := t.bridgeLimit % 4294967296
    acqCount := t.acqCount % 256
    holdoverRate := t.holdoverRate % 4294967296 } := by
  have groups : (Vector.ofFn fun i : Fin 4 => BitVec.ofNat 16 (natAt (settingsBytes t) (2 + 2 * i.val) 2)) = t.groups :=
    ofFn_eq fun i => by fin_cases i <;> simp [natAt, settingsBytes, toList_four, ofNat_word]
  unfold settingsOf
  rw [groups]
  simp [natAt, settingsBytes, toList_four, ofNat_word]

theorem settingsOf_settingsBytes_of_inRange {t : Settings} (h : t.InRange) : settingsOf (settingsBytes t) = t := by
  obtain ⟨-, -, rates, preferred, rotation, gapLimit, silence, setupMargin, maxLead, guard, bridgeLimit, acqCount,
    holdoverRate⟩ := h
  have rateA : 1 ≤ t.rateA ∧ t.rateA ≤ 7 := rates .a
  have rateB : 1 ≤ t.rateB ∧ t.rateB ≤ 7 := rates .b
  rw [settingsOf_settingsBytes, preferredOf_code preferred]
  cases t
  simp only [Settings.mk.injEq, true_and, and_true] at *
  omega

/-- A settings row holds the bytes it was read from. -/
theorem settingsBytes_settingsOf {row : List Byte} (h : row.length = 35) : settingsBytes (settingsOf row) = row := by
  simp only [settingsBytes, settingsOf, toList_four, get_ofFn, code_preferredOf, List.flatMap_cons, List.flatMap_nil,
    List.append_nil, ← List.append_assoc]
  simp [h, bytesOf_wordAt, bytesOf_natAt, byteAt_eq, fieldAt_join, -List.append_assoc]

/-- The values below `lo` go to `lo` and those above `hi` to `hi` (R31). -/
theorem clampNat_eq {lo hi : Nat} (h : lo ≤ hi) (v : Nat) :
    clampNat lo hi v = if v < lo then lo else if hi < v then hi else v := by
  unfold clampNat
  split_ifs <;> omega

theorem clampNat_of_mem {lo hi v : Nat} (h : lo ≤ v ∧ v ≤ hi) : clampNat lo hi v = v := by
  unfold clampNat
  omega

theorem clampOffset_eq (v : Int) :
    clampOffset v = if v < -1000000 then -1000000 else if 1000000 < v then 1000000 else v := by
  unfold clampOffset clampInt
  split_ifs <;> omega

theorem clampOffset_of_inRange {v : Int} (h : OffsetInRange v) : clampOffset v = v := by
  obtain ⟨lo, hi⟩ := h
  rw [clampOffset_eq, if_neg (by omega), if_neg (by omega)]

/-- A settings record in range is kept as it was written (R25, R31). -/
theorem keptSettings_of_inRange {t : Settings} (h : t.InRange) : keptSettings t = t := by
  obtain ⟨⟨not_none, not_all⟩, groups, -, -, rotation, gapLimit, silence, setupMargin, maxLead, ⟨guard, below_margin⟩,
    bridgeLimit, acqCount, holdoverRate⟩ := h
  have same_groups : t.groups.map clampGroup = t.groups := Vector.ext fun i hi => by
    rw [Vector.getElem_map]
    exact if_neg (groups ⟨i, hi⟩)
  simp only [keptSettings, holdGuard, clampSettings, clampAddress, if_neg not_none, if_neg not_all, same_groups,
    clampNat_of_mem rotation, clampNat_of_mem gapLimit, clampNat_of_mem silence, clampNat_of_mem setupMargin,
    clampNat_of_mem maxLead, clampNat_of_mem ⟨Nat.zero_le _, guard⟩, clampNat_of_mem ⟨Nat.zero_le _, bridgeLimit⟩,
    clampNat_of_mem acqCount, clampNat_of_mem holdoverRate, Nat.min_eq_left below_margin]

theorem Settings.accepted_of_inRange {t : Settings} (h : t.InRange) : t.accepted = true := by
  have a : 1 ≤ t.rateA ∧ t.rateA ≤ 7 := h.rates .a
  have b : 1 ≤ t.rateB ∧ t.rateB ≤ 7 := h.rates .b
  simp [Settings.accepted, a, b, h.preferred]

theorem settingsOf_of_readSettings {row : List Byte} {t : Settings} (h : readSettings row = some t) :
    settingsOf row = t := by
  unfold readSettings at h
  split at h
  · exact Option.some.inj h
  · cases h

/-! ### A MODES row -/

theorem length_modeBytes (m : ModeRow) : (modeBytes m).length = 32 := by
  simp [modeBytes, toList_four]

/-- A MODES row read back: each number as far as its bytes hold it. -/
theorem modeOf_modeBytes (m : ModeRow) : modeOf (modeBytes m) = { m with
    rate := m.rate % 65536
    offset := signedOf (signedBytes 4 m.offset)
    keyLead := m.keyLead % 4294967296
    tail := m.tail % 4294967296
    levelSet := levelSetOf m.levelSet.code
    late := latePolicyOf m.late.code
    joinMin := m.joinMin % 65536
    tolerance := m.tolerance % 4294967296 } := by
  have levels : (Vector.ofFn fun i : Fin 4 => BitVec.ofNat 16 (natAt (modeBytes m) (16 + 2 * i.val) 2)) = m.levels :=
    ofFn_eq fun i => by fin_cases i <;> simp [natAt, modeBytes, toList_four, ofNat_word]
  unfold modeOf
  rw [levels]
  simp [natAt, intAt, modeBytes, toList_four, ofNat_word]

theorem modeOf_modeBytes_of_inRange {m : ModeRow} (h : m.InRange) : modeOf (modeBytes m) = m := by
  obtain ⟨rate, ⟨lo, hi⟩, keyLead, tail, joinMin, tolerance, levelSet, late⟩ := h
  rw [modeOf_modeBytes, levelSetOf_code levelSet, latePolicyOf_code late, signedOf_signedBytes (by omega) (by omega)]
  cases m
  simp only [ModeRow.mk.injEq, true_and] at *
  omega

/-- A MODES row holds the bytes it was read from. -/
theorem modeBytes_modeOf {row : List Byte} (h : row.length = 32) : modeBytes (modeOf row) = row := by
  have codes : ∀ a b : Byte, [a, b] = [a] ++ [b] := fun _ _ => rfl
  simp only [modeBytes, modeOf, toList_four, get_ofFn, code_levelSetOf, code_latePolicyOf, List.flatMap_cons,
    List.flatMap_nil, List.append_nil, codes, ← List.append_assoc]
  simp [h, bytesOf_wordAt, bytesOf_natAt, signedBytes_intAt, byteAt_eq, fieldAt_join, -List.append_assoc]

theorem clampMode_of_inRange {m : ModeRow} (h : m.InRange) : clampMode m = m := by
  obtain ⟨-, offset, keyLead, tail, joinMin, tolerance, -, -⟩ := h
  simp only [clampMode, clampOffset_of_inRange offset, clampNat_of_mem ⟨Nat.zero_le _, keyLead⟩,
    clampNat_of_mem ⟨Nat.zero_le _, tail⟩, clampNat_of_mem joinMin, clampNat_of_mem ⟨Nat.zero_le _, tolerance⟩]

theorem ModeRow.accepted_of_inRange {m : ModeRow} (h : m.InRange) : m.accepted = true := by
  simp [ModeRow.accepted, h.rate, h.levelSet, h.late]

theorem modeOf_of_readMode {row : List Byte} {m : ModeRow} (h : readMode row = some m) : modeOf row = m := by
  unfold readMode at h
  split at h
  · exact Option.some.inj h
  · cases h

/-! ### A ZONES row and the SITE row -/

theorem length_zoneBytes (z : ZoneRow) : (zoneBytes z).length = 4 := by
  simp [zoneBytes]

theorem zoneOf_zoneBytes_of_inRange {z : ZoneRow} (h : z.InRange) : zoneOf (zoneBytes z) = z := by
  obtain ⟨mode, lo, hi⟩ := h
  have offset : signedOf (signedBytes 3 z.offset) = z.offset := signedOf_signedBytes (by omega) (by omega)
  simp [zoneOf, zoneBytes, natAt, intAt, offset, zoneModeOf_code mode]

/-- A ZONES row holds the bytes it was read from. -/
theorem zoneBytes_zoneOf {row : List Byte} (h : row.length = 4) : zoneBytes (zoneOf row) = row := by
  have code : ∀ (b : Byte) (bs : List Byte), b :: bs = [b] ++ bs := fun _ _ => rfl
  rw [zoneBytes, zoneOf, code]
  simp [h, signedBytes_intAt, byteAt_eq, fieldAt_join, -List.singleton_append]

theorem clampZone_of_inRange {z : ZoneRow} (h : z.InRange) : clampZone z = z := by
  simp only [clampZone, clampOffset_of_inRange h.offset]

theorem zoneOf_of_readZone {row : List Byte} {z : ZoneRow} (h : readZone row = some z) : zoneOf row = z := by
  unfold readZone at h
  split at h
  · exact Option.some.inj h
  · cases h

theorem length_siteBytes (f : Profile) : (siteBytes f).length = 4 := length_signedBytes 4 f.siteOffset

theorem intAt_siteBytes {f : Profile} (h : OffsetInRange f.siteOffset) : intAt (siteBytes f) 0 4 = f.siteOffset := by
  obtain ⟨lo, hi⟩ := h
  rw [intAt, fieldAt_whole (length_siteBytes f)]
  exact signedOf_signedBytes (by omega) (by omega)

/-! ### The image of a profile -/

theorem length_modeRows (f : Profile) : (f.modes.toList.flatMap modeBytes).length = 256 := by
  rw [length_flatMap_sized fun m _ => length_modeBytes m, Vector.length_toList]

theorem length_zoneRows (f : Profile) : (f.zones.toList.flatMap zoneBytes).length = 256 := by
  rw [length_flatMap_sized fun z _ => length_zoneBytes z, Vector.length_toList]

theorem length_profileImage (f : Profile) : (profileImage f).length = 516 := by
  rw [profileImage, List.length_append, List.length_append, length_siteBytes, length_modeRows, length_zoneRows]

theorem fieldAt_profileImage_site (f : Profile) : fieldAt (profileImage f) 0 4 = siteBytes f := by
  have len := length_siteBytes f
  rw [profileImage, List.append_assoc, fieldAt_append_left (by omega), fieldAt_whole len]

theorem fieldAt_profileImage_mode (f : Profile) (i : Fin 8) :
    fieldAt (profileImage f) (4 + 32 * i.val) 32 = modeBytes (f.modes.get i) := by
  have modes := length_modeRows f
  have site := length_siteBytes f
  rw [profileImage, fieldAt_append_left (by rw [List.length_append]; omega), fieldAt_append_right (by omega), site,
    Nat.add_sub_cancel_left, fieldAt_flatMap (fun m _ => length_modeBytes m) (by simp)]
  rfl

theorem fieldAt_profileImage_zone (f : Profile) (i : Fin 64) :
    fieldAt (profileImage f) (260 + 4 * i.val) 4 = zoneBytes (f.zones.get i) := by
  have len : (siteBytes f ++ f.modes.toList.flatMap modeBytes).length = 260 := by
    rw [List.length_append, length_siteBytes, length_modeRows]
  rw [profileImage, fieldAt_append_right (by omega), len, Nat.add_sub_cancel_left,
    fieldAt_flatMap (fun z _ => length_zoneBytes z) (by simp)]
  rfl

/-- A profile in range reads back from its image (R35). -/
theorem profileOf_profileImage {f : Profile} (h : f.InRange) : profileOf (profileImage f) = f := by
  have site : intAt (profileImage f) 0 4 = f.siteOffset := by
    rw [intAt, fieldAt_profileImage_site, ← fieldAt_whole (length_siteBytes f)]
    exact intAt_siteBytes h.siteOffset
  have modes : (Vector.ofFn fun i : Fin 8 => modeOf (fieldAt (profileImage f) (4 + 32 * i.val) 32)) = f.modes :=
    ofFn_eq fun i => by rw [fieldAt_profileImage_mode, modeOf_modeBytes_of_inRange (h.modes i)]
  have zones : (Vector.ofFn fun i : Fin 64 => zoneOf (fieldAt (profileImage f) (260 + 4 * i.val) 4)) = f.zones :=
    ofFn_eq fun i => by rw [fieldAt_profileImage_zone, zoneOf_zoneBytes_of_inRange (h.zones i)]
  rw [profileOf, site, modes, zones]

/-- A profile's image holds the bytes it was read from. -/
theorem profileImage_profileOf {image : List Byte} (h : image.length = 516) : profileImage (profileOf image) = image := by
  have site : siteBytes (profileOf image) = fieldAt image 0 4 := signedBytes_intAt (by omega)
  have modes : (profileOf image).modes.toList.flatMap modeBytes = fieldAt image 4 256 := by
    rw [← flatten_fields image 4 32 8]
    simp only [profileOf, Vector.toList_ofFn, List.flatMap_def, List.map_ofFn]
    congr 2
    funext i
    exact modeBytes_modeOf (length_fieldAt (by omega))
  have zones : (profileOf image).zones.toList.flatMap zoneBytes = fieldAt image 260 256 := by
    rw [← flatten_fields image 260 4 64]
    simp only [profileOf, Vector.toList_ofFn, List.flatMap_def, List.map_ofFn]
    congr 2
    funext i
    exact zoneBytes_zoneOf (length_fieldAt (by omega))
  rw [profileImage, site, modes, zones, fieldAt_join rfl, fieldAt_join rfl, fieldAt_whole h]

/-! ### The layouts -/

theorem signedBytes_four (v : Int) : signedBytes 4 v =
    let u := (v % 4294967296).toNat
    [BitVec.ofNat 8 (u / 16777216), BitVec.ofNat 8 (u / 65536), BitVec.ofNat 8 (u / 256), BitVec.ofNat 8 u] :=
  bytesOf_four _

theorem signedBytes_three (v : Int) : signedBytes 3 v =
    let u := (v % 16777216).toNat
    [BitVec.ofNat 8 (u / 65536), BitVec.ofNat 8 (u / 256), BitVec.ofNat 8 u] := by
  simp [signedBytes, bytesOf]

/-- Settles O15: each row is made of fields of fixed length, which read back one by one. -/
theorem tableRowsReadBack : Obligations.TableRowsReadBack := by
  unfold Obligations.TableRowsReadBack
  refine ⟨fun t h => ⟨length_settingsBytes t, ?_, keptSettings_of_inRange h⟩,
    fun m h => ⟨length_modeBytes m, ?_, clampMode_of_inRange h⟩,
    fun z h => ⟨length_zoneBytes z, ?_, clampZone_of_inRange h⟩,
    fun f h => ⟨length_siteBytes f, intAt_siteBytes h, clampOffset_of_inRange h⟩, ?_⟩
  · rw [readSettings, settingsOf_settingsBytes_of_inRange h, if_pos (Settings.accepted_of_inRange h)]
  · rw [readMode, modeOf_modeBytes_of_inRange h, if_pos (ModeRow.accepted_of_inRange h)]
  · rw [readZone, zoneOf_zoneBytes_of_inRange h, if_pos h.mode]
  · intro one two four signed4 signed3 word
    refine ⟨fun row => ⟨fun len t read => ?_, fun len m read => ?_, fun len z read => ?_, fun len f same => ?_,
      fun z len read => ?_, fun m len read => ?_⟩, fun t => ?_, fun m => ?_, fun z => ?_,
      fun f => ⟨signedBytes_four _, length_profileImage f, fieldAt_profileImage_site f, fieldAt_profileImage_mode f,
        fieldAt_profileImage_zone f⟩⟩
    · rw [← settingsOf_of_readSettings read, settingsBytes_settingsOf len]
    · rw [← modeOf_of_readMode read, modeBytes_modeOf len]
    · rw [← zoneOf_of_readZone read, zoneBytes_zoneOf len]
    · have bounds := intAt_bounds (bs := row) (off := 0) (n := 4) (by omega)
      refine ⟨?_, by omega, by omega⟩
      rw [siteBytes, same, signedBytes_intAt (by omega), fieldAt_whole len]
    · have bounds := intAt_bounds (bs := row) (off := 1) (n := 3) (by omega)
      have offset : z.offset = intAt row 1 3 := by rw [← zoneOf_of_readZone read, zoneOf]
      omega
    · have bounds := intAt_bounds (bs := row) (off := 2) (n := 4) (by omega)
      have offset : m.offset = intAt row 2 4 := by rw [← modeOf_of_readMode read, modeOf]
      omega
    · simp only [settingsBytes, toList_four, List.flatMap_cons, List.flatMap_nil, List.append_nil, bytesOf_word,
        bytesOf_one, bytesOf_four, ← List.append_assoc]
      rcases t.preferred with (_ | _) | _ <;> rfl
    · simp only [modeBytes, toList_four, List.flatMap_cons, List.flatMap_nil, List.append_nil, bytesOf_word,
        bytesOf_two m.rate, bytesOf_two m.joinMin, bytesOf_four, signedBytes_four, ← List.append_assoc]
      refine congrArg₂ _ (congrArg₂ _ (congrArg₂ _ rfl (congrArg₂ _ ?_ (congrArg₂ _ ?_ rfl))) rfl) rfl
      · cases m.levelSet <;> rfl
      · cases m.late <;> rfl
    · rw [zoneBytes, signedBytes_three]
      rcases z.mode with _ | _ | _ | _ <;> rfl

end Sys2Proof.Machine
end

section
/-! SUPPORT. The nonvolatile copy: where each part of a snapshot stands, and what a copy read back gives (R37, R39, R40, R178). -/

namespace Sys2Proof.Machine

/-! ### The parts of a snapshot -/

theorem length_images (fs : Vector Profile 4) : (fs.toList.flatMap profileImage).length = 2064 := by
  rw [length_flatMap_sized fun f _ => length_profileImage f, Vector.length_toList]

theorem length_snapshotBytes (t : Settings) (fs : Vector Profile 4) (n : Fin 4) : (snapshotBytes t fs n).length = 2100 := by
  rw [snapshotBytes, List.length_append, List.length_append, length_settingsBytes, length_images, List.length_singleton]

theorem fieldAt_snapshotBytes_settings (t : Settings) (fs : Vector Profile 4) (n : Fin 4) :
    fieldAt (snapshotBytes t fs n) 0 35 = settingsBytes t := by
  have len := length_settingsBytes t
  rw [snapshotBytes, List.append_assoc, fieldAt_append_left (by omega), fieldAt_whole len]

theorem fieldAt_snapshotBytes_profile (t : Settings) (fs : Vector Profile 4) (n i : Fin 4) :
    fieldAt (snapshotBytes t fs n) (35 + 516 * i.val) 516 = profileImage (fs.get i) := by
  have settings := length_settingsBytes t
  have images := length_images fs
  rw [snapshotBytes, fieldAt_append_left (by rw [List.length_append]; omega), fieldAt_append_right (by omega), settings,
    Nat.add_sub_cancel_left, fieldAt_flatMap (fun f _ => length_profileImage f) (by simp)]
  rfl

theorem natAt_snapshotBytes_active (t : Settings) (fs : Vector Profile 4) (n : Fin 4) :
    natAt (snapshotBytes t fs n) 2099 1 = n.val := by
  have len : (settingsBytes t ++ fs.toList.flatMap profileImage).length = 2099 := by
    rw [List.length_append, length_settingsBytes, length_images]
  rw [natAt, snapshotBytes, fieldAt_append_right (by omega), len, Nat.sub_self, fieldAt_whole (n := 1) rfl,
    unsignedOf_single, BitVec.toNat_ofNat]
  omega

/-! ### A copy read back -/

/-- A copy passes its two checks, and no other, and is then read as it stands (R39, R40; log 13). -/
theorem readCopy_eq_some_iff {nv : NvCopy} {t : Settings} {fs : Vector Profile 4} {n : Fin 4} :
    readCopy nv = some (t, fs, n) ↔ crc16 nv.bytes = nv.check ∧ natAt nv.bytes 2099 1 = n.val
      ∧ settingsOf (fieldAt nv.bytes 0 35) = t
      ∧ (Vector.ofFn fun i : Fin 4 => profileOf (fieldAt nv.bytes (35 + 516 * i.val) 516)) = fs := by
  unfold readCopy
  dsimp only
  split
  · next passed =>
    simp only [Option.some.injEq, Prod.mk.injEq, Fin.ext_iff]
    exact ⟨fun ⟨settings, profiles, active⟩ => ⟨passed.1, active, settings, profiles⟩,
      fun ⟨_, active, settings, profiles⟩ => ⟨settings, profiles, active⟩⟩
  · next failed =>
    refine iff_of_false (by simp) ?_
    rintro ⟨check, active, -⟩
    exact failed ⟨check, by omega⟩

theorem readCopy_eq_none_iff (nv : NvCopy) :
    readCopy nv = none ↔ crc16 nv.bytes ≠ nv.check ∨ 3 < (nv.bytes.getD 2099 0).toNat := by
  refine ⟨fun refused => ?_, readCopy_eq_none⟩
  by_contra passed
  obtain ⟨check, active⟩ := not_or.mp passed
  rw [← natAt_one] at active
  have read := (readCopy_eq_some_iff (n := ⟨natAt nv.bytes 2099 1, by omega⟩)).mpr ⟨not_not.mp check, rfl, rfl, rfl⟩
  rw [refused] at read
  cases read

/-- Settles O16: each part of the snapshot stands where the reading looks for it. -/
theorem storedCopyReadsBack : Obligations.StoredCopyReadsBack := by
  unfold Obligations.StoredCopyReadsBack
  refine ⟨fun t fs n settings profiles => ⟨length_snapshotBytes t fs n, ?_⟩, fun t fs n => ?_, readCopy_eq_none_iff,
    fun nv t fs n len read => ?_⟩
  · rw [readCopy_eq_some_iff]
    dsimp only
    refine ⟨rfl, natAt_snapshotBytes_active t fs n, ?_, ofFn_eq fun i => ?_⟩
    · rw [fieldAt_snapshotBytes_settings, settingsOf_settingsBytes_of_inRange settings]
    · rw [fieldAt_snapshotBytes_profile, profileOf_profileImage (profiles i)]
  · simp only [snapshotBytes, toList_four, List.flatMap_cons, List.flatMap_nil, List.append_nil, List.append_assoc]
  · obtain ⟨-, active, settings, profiles⟩ := readCopy_eq_some_iff.mp read
    have images : fs.toList.flatMap profileImage = fieldAt nv.bytes 35 2064 := by
      rw [← flatten_fields nv.bytes 35 516 4, ← profiles]
      simp only [Vector.toList_ofFn, List.flatMap_def, List.map_ofFn]
      congr 2
      funext i
      exact profileImage_profileOf (length_fieldAt (by omega))
    rw [snapshotBytes, images, ← settings, settingsBytes_settingsOf (length_fieldAt (by omega)), ← active,
      byteAt_eq (by omega), fieldAt_join rfl, fieldAt_join rfl, fieldAt_whole len]

end Sys2Proof.Machine
end

section
/-! SUPPORT. A request carried out by a free engine; and the settings record replaced: silence, the reply, then the rate changes
(R26, R67, R70, R73, R74, R154 to R157; log 38, log 43). -/

namespace Sys2Proof.Machine

/-! ### A request taken with the engine free -/

@[simp] theorem requestOf_code (q : Request) : requestOf q.code = some q := by cases q <;> rfl

/-- A request whose parameters have their length is carried out once it is counted (R154 to R157). -/
theorem State.takeRequest_free {s : State} (free : s.engine = .free) {q : Request} {params : List Byte}
    (len : q.lengthOk params = true) (h : Handed) :
    s.takeRequest q.code h params = (s.bump (.mgmt .requestsTaken)).carryOut q h params := by
  simp [State.takeRequest, State.busy, free, len]

/-! ### The silence time -/

/-- A link whose silence time is not above the time it has run goes DOWN, its alarm latched (R67). -/
def State.silencedBy (limit : Nat) (l : Link) (s : State) : State :=
  if (s.link l).up = true ∧ limit * 10000000 ≤ (s.link l).silence then
    { s.setLink l { s.link l with up := false, silence := 0 } with
      latches := s.latches ||| (if l = .a then 0x02 else 0x04) }
  else s

theorem State.silenceCheck_eq (s : State) (l : Link) : s.silenceCheck l = s.silencedBy s.store.settings.silence l := by
  unfold State.silenceCheck State.silencedBy
  dsimp only [Config.periodsPerSecond]
  split
  · cases l <;> rfl
  · rfl

@[simp] theorem State.silencedBy_store (limit : Nat) (l : Link) (s : State) : (s.silencedBy limit l).store = s.store := by
  unfold State.silencedBy
  split <;> simp

/-! ### The rate changes -/

/-- A rate change from one code to another: pending behind the replies of a unicast request on the link itself, at once
otherwise, a frame attempt in progress then ending as BAD_CHAR (R73, R74; log 43). -/
def State.rateMoved (h : Handed) (old new : Nat) (l : Link) (s : State) : State :=
  let c := s.link l
  if new = old then s
  else if h.addressing = .unicast ∧ h.link = l then
    s.setLink l { c with rateChange := some { code := new, after := c.replies.length } }
  else if c.deframer = .hunt then s.setLink l { c with lineRate := new, rateChange := none }
  else (s.setLink l { c with lineRate := new, rateChange := none, deframer := .hunt, gapTimer := none }).bump
    (.link l (.attempt .badChar))

theorem State.applyRate_eq (s : State) (l : Link) (code : Nat) :
    s.applyRate l code =
      if (s.link l).deframer = .hunt then s.setLink l { s.link l with lineRate := code, rateChange := none }
      else (s.setLink l { s.link l with lineRate := code, rateChange := none, deframer := .hunt, gapTimer := none }).bump
        (.link l (.attempt .badChar)) := by
  simp [State.applyRate, State.endAttempt]

/-- The request's reply stands in its own queue, so a rate change of that link waits behind it (R73). -/
theorem State.rateFollows_eq {h : Handed} {s : State}
    (replied : h.addressing = .unicast → (s.link h.link).replies ≠ []) (old new : Settings) (l : Link) :
    State.rateFollows h old new s l = s.rateMoved h (old.rate l) (new.rate l) l := by
  have behind : (h.addressing = .unicast ∧ h.link = l ∧ (s.link l).replies ≠ [])
      ↔ h.addressing = .unicast ∧ h.link = l := by
    refine ⟨fun ⟨unicast, own, _⟩ => ⟨unicast, own⟩, ?_⟩
    rintro ⟨unicast, rfl⟩
    exact ⟨unicast, rfl, replied unicast⟩
  simp only [State.rateFollows, State.rateMoved, State.changeRate, behind, State.applyRate_eq, eq_comm (a := old.rate l)]

theorem State.rateMoved_replies (h : Handed) (old new : Nat) (l k : Link) (s : State) :
    ((s.rateMoved h old new l).link k).replies = (s.link k).replies := by
  unfold State.rateMoved
  by_cases own : k = l
  · subst own
    dsimp only
    split_ifs <;> simp
  · dsimp only
    split_ifs <;> simp [State.link_setLink_other _ _ _ _ own]

/-- After its answer a unicast request's queue holds a frame: the reply, or the four that left it no place (R70, R71). -/
theorem State.answer_replied {h : Handed} (unicast : h.addressing = .unicast) (s : State) (q : Request) (res : Result)
    (data : List Byte) : ((s.answer h q res data).link h.link).replies ≠ [] := by
  obtain ⟨-, placed⟩ | ⟨other, -⟩ := s.answer_cases h q res data
  · rw [placed]
    obtain ⟨-, queued⟩ | ⟨full, lost⟩ := s.placeReply_cases h.link (replyBody h q.code res.code 0 true data)
    · rw [queued, State.link_setLink_same, CarriageLink.beginReply]
      split <;> simp
    · rw [lost, State.bump_link]
      exact List.ne_nil_of_length_pos (by omega)
  · exact absurd unicast other

/-- The settings record replaced by a request: silence first, then the reply, then the rate changes (R67, R70, R73;
log 38). -/
theorem State.installSettings_eq (s : State) (h : Handed) (new : Settings) (q : Request) (res : Result) (data : List Byte) :
    s.installSettings h new (fun x => x.answer h q res data) =
      ((((({ s with store := { s.store with settings := new } }.silencedBy new.silence .a).silencedBy new.silence .b).answer
        h q res data).rateMoved h (s.store.settings.rate .a) (new.rate .a) .a).rateMoved h (s.store.settings.rate .b)
          (new.rate .b) .b) := by
  simp only [State.installSettings, State.silenceCheck_eq, State.silencedBy_store]
  rw [State.rateFollows_eq (fun unicast => State.answer_replied unicast _ _ _ _), State.rateFollows_eq fun unicast => ?_]
  rw [State.rateMoved_replies]
  exact State.answer_replied unicast _ _ _ _

end Sys2Proof.Machine
end

section
/-! SUPPORT. WRITE: its tests in order, what a row is refused for, and the settings record in range (R24 to R26, R29 to R31,
R161, R179). -/

namespace Sys2Proof.Machine

/-! ### The tests in order -/

theorem State.profileInUse_iff (s : State) (p : Fin 4) :
    s.profileInUse p = true ↔ s.store.active = p ∨ s.store.pending.map (·.target) = some p := by
  unfold State.profileInUse
  cases s.store.pending <;> simp

theorem State.judgeWrite_bump (s : State) (c : Counter) (params : List Byte) :
    (s.bump c).judgeWrite params = s.judgeWrite params := rfl

theorem State.judgeWrite_short (s : State) {params : List Byte} (short : params.length < 2) :
    s.judgeWrite params = .error .range := if_pos short

theorem State.judgeWrite_unnamed (s : State) {id : Byte} (unnamed : tableOf id = none) (first : Byte) (carried : List Byte) :
    s.judgeWrite (id :: first :: carried) = .error .noSuch := by
  simp [State.judgeWrite, unnamed]

section
variable (s : State) {id first : Byte} {carried : List Byte} {t : TableId} (named : tableOf id = some t)
include named

theorem State.judgeWrite_ragged (ragged : ¬ (carried ≠ [] ∧ carried.length % t.rowSize = 0)) :
    s.judgeWrite (id :: first :: carried) = .error .range := by
  have test : carried = [] ∨ carried.length % t.rowSize ≠ 0 := by
    by_contra c
    exact ragged (not_or.mp c |>.imp_right not_not.mp)
  simp [State.judgeWrite, named, test]

variable (whole : carried ≠ [] ∧ carried.length % t.rowSize = 0)
include whole

theorem State.judgeWrite_readOnly (readOnly : t.writableRows = none) :
    s.judgeWrite (id :: first :: carried) = .error .readOnly := by
  simp [State.judgeWrite, named, whole, readOnly]

variable {held : Nat} (rows : t.writableRows = some held)
include rows

theorem State.judgeWrite_beyond (beyond : held < first.toNat + carried.length / t.rowSize) :
    s.judgeWrite (id :: first :: carried) = .error .noSuch := by
  simp [State.judgeWrite, named, whole, rows, beyond]

variable (within : first.toNat + carried.length / t.rowSize ≤ held)
include within

theorem State.judgeWrite_inUse {p : Fin 4} (profile : t.profile = some p)
    (inUse : s.store.active = p ∨ s.store.pending.map (·.target) = some p) :
    s.judgeWrite (id :: first :: carried) = .error .inUse := by
  rw [← State.profileInUse_iff] at inUse
  simp [State.judgeWrite, named, whole, rows, within, profile, inUse]

theorem State.judgeWrite_profile {p : Fin 4} (profile : t.profile = some p) (active : s.store.active ≠ p)
    (pending : s.store.pending.map (·.target) ≠ some p) :
    s.judgeWrite (id :: first :: carried) =
      .ok (t, first.toNat, rowsOf t.rowSize (carried.length / t.rowSize) carried) := by
  have unused : s.profileInUse p = false := by
    rw [← Bool.not_eq_true, State.profileInUse_iff]
    exact not_or.mpr ⟨active, pending⟩
  simp [State.judgeWrite, named, whole, rows, within, profile, unused]

theorem State.judgeWrite_settings (profile : t.profile = none) :
    s.judgeWrite (id :: first :: carried) =
      .ok (t, first.toNat, rowsOf t.rowSize (carried.length / t.rowSize) carried) := by
  simp [State.judgeWrite, named, whole, rows, within, profile]

end

theorem exec_write_refused {s : State} (free : s.engine = .free) {params : List Byte} {res : Result}
    (judged : s.judgeWrite params = .error res) (h : Handed) :
    exec (.write h params) s = .next ((s.bump (.mgmt .requestsTaken)).answer h .write res []) := by
  refine congrArg Host.Outcome.next ((State.takeRequest_free free rfl h).trans ?_)
  simp only [State.carryOut, State.doWrite, State.judgeWrite_bump, judged]

theorem exec_write_judged {s : State} (free : s.engine = .free) {params : List Byte} {t : TableId} {first : Nat}
    {rows : List (List Byte)} (judged : s.judgeWrite params = .ok (t, first, rows)) (h : Handed) :
    exec (.write h params) s = .next ((s.bump (.mgmt .requestsTaken)).writeRows h t first rows) := by
  refine congrArg Host.Outcome.next ((State.takeRequest_free free rfl h).trans ?_)
  simp only [State.carryOut, State.doWrite, State.judgeWrite_bump, judged]

/-- The result of a WRITE tells whether a value was clamped (R31). -/
theorem writeResult_eq {α : Type} [DecidableEq α] (kept raw : α) :
    writeResult (decide (kept ≠ raw)) = if kept = raw then .done else .clamped := by
  unfold writeResult
  by_cases same : kept = raw <;> simp [same]

/-! ### The settings record -/

/-- Every field to the nearer limit, the guard then to the setup margin (R24, R25, R31). -/
theorem keptSettings_eq (r : Settings) :
    let held := fun (lo hi v : Nat) => if v < lo then lo else if hi < v then hi else v
    let margin := held 1000 1000000 r.setupMargin
    keptSettings r = { r with
      siteAddress := if r.siteAddress = 0 then 1 else if r.siteAddress = 0xFFFF then 0xFFFE else r.siteAddress
      groups := r.groups.map (fun g => if g = 0xFFFF then 0xFFFE else g)
      rotation := held 1 8 r.rotation
      gapLimit := held 1 255 r.gapLimit
      silence := held 1 255 r.silence
      setupMargin := margin
      maxLead := held 1 120 r.maxLead
      guard := min (held 0 100000 r.guard) margin
      bridgeLimit := held 0 10000000 r.bridgeLimit
      acqCount := held 2 10 r.acqCount
      holdoverRate := held 1 100000 r.holdoverRate } := by
  simp only [keptSettings, holdGuard, clampSettings, clampNat_eq (by decide : 1 ≤ 8),
    clampNat_eq (by decide : 1 ≤ 255), clampNat_eq (by decide : 1000 ≤ 1000000), clampNat_eq (by decide : 1 ≤ 120),
    clampNat_eq (by decide : 0 ≤ 100000), clampNat_eq (by decide : 0 ≤ 10000000), clampNat_eq (by decide : 2 ≤ 10),
    clampNat_eq (by decide : 1 ≤ 100000)]
  rfl

theorem clampNat_mem {lo hi : Nat} (h : lo ≤ hi) (v : Nat) : lo ≤ clampNat lo hi v ∧ clampNat lo hi v ≤ hi := by
  unfold clampNat
  omega

theorem rate_keptSettings (r : Settings) (l : Link) : (keptSettings r).rate l = r.rate l := by cases l <;> rfl

/-- What a WRITE keeps of a record that is not refused is in range (R24, R25, R30, R31). -/
theorem keptSettings_inRange {r : Settings} (listed : r.preferred.listed = true) (rates : ∀ l, 1 ≤ r.rate l ∧ r.rate l ≤ 7) :
    (keptSettings r).InRange where
  siteAddress := by
    show clampAddress r.siteAddress ≠ 0 ∧ clampAddress r.siteAddress ≠ 0xFFFF
    unfold clampAddress
    split_ifs with zero all
    · decide
    · decide
    · exact ⟨zero, all⟩
  groups i := by
    show (r.groups.map clampGroup)[i.val] ≠ 0xFFFF
    rw [Vector.getElem_map, clampGroup]
    split_ifs with all
    · decide
    · exact all
  rates l := by rw [rate_keptSettings]; exact rates l
  preferred := listed
  rotation := clampNat_mem (by decide) _
  gapLimit := clampNat_mem (by decide) _
  silence := clampNat_mem (by decide) _
  setupMargin := clampNat_mem (by decide) _
  maxLead := clampNat_mem (by decide) _
  guard := ⟨(Nat.min_le_left _ _).trans (clampNat_mem (by decide) _).2, Nat.min_le_right _ _⟩
  bridgeLimit := (clampNat_mem (by decide) _).2
  acqCount := clampNat_mem (by decide) _
  holdoverRate := clampNat_mem (by decide) _

/-- A settings row is refused for a rate code that is none or an unlisted preferred link (R30). -/
theorem readSettings_eq_none_iff (row : List Byte) :
    readSettings row = none ↔
      (row.getD 10 0 = 0 ∨ 7 < (row.getD 10 0).toNat) ∨ (row.getD 11 0 = 0 ∨ 7 < (row.getD 11 0).toNat)
        ∨ 1 < (row.getD 12 0).toNat := by
  have code : ∀ b : Byte, b = 0 ↔ b.toNat = 0 := fun b => by simp [BitVec.toNat_eq]
  unfold readSettings
  simp only [ite_eq_right_iff, reduceCtorEq, imp_false, Settings.accepted, settingsOf, natAt_one, Bool.and_eq_true,
    decide_eq_true_eq, listed_preferredOf, BitVec.ofNat_toNat, BitVec.setWidth_eq, code]
  omega

theorem rowsOf_one {size : Nat} {row : List Byte} (h : row.length = size) : rowsOf size 1 row = [row] := by
  simp [rowsOf, ← h]

theorem judgeWrite_settingsRow (s : State) {row : List Byte} (len : row.length = 35) :
    s.judgeWrite ([0x00, 0x00] ++ row) = .ok (.settings, 0, [row]) := by
  have whole : row ≠ [] ∧ row.length % TableId.settings.rowSize = 0 :=
    ⟨List.ne_nil_of_length_pos (by omega), by rw [len]; rfl⟩
  have one : row.length / TableId.settings.rowSize = 1 := by rw [len]; rfl
  refine (State.judgeWrite_settings s (rfl : tableOf 0x00 = some .settings) whole rfl (by rw [one]; decide) rfl).trans ?_
  rw [one, show TableId.settings.rowSize = 35 from rfl, rowsOf_one len]
  rfl

/-- Settles O54: each test refuses by itself, and the settings row is installed as every change of the record is. -/
theorem writeIsJudgedInOrder : Obligations.WriteIsJudgedInOrder := by
  unfold Obligations.WriteIsJudgedInOrder
  refine ⟨fun s h params free => ?_, fun r => ⟨keptSettings_eq r, keptSettings_inRange⟩, fun s h row free len => ?_⟩
  · refine ⟨fun short => exec_write_refused free (s.judgeWrite_short short) h, fun id first carried given => ?_⟩
    subst given
    refine ⟨fun unnamed => exec_write_refused free (s.judgeWrite_unnamed unnamed _ _) h, fun t named => ?_⟩
    intro whole n readOnly held inUse
    refine ⟨fun ragged => exec_write_refused free (s.judgeWrite_ragged named ragged) h, fun wh ro => ?_,
      fun wh writable beyond => ?_, fun p profile wh within used => ?_⟩
    · refine exec_write_refused free (s.judgeWrite_readOnly named wh ?_) h
      rcases ro with rfl | rfl | rfl <;> rfl
    · have rows : t.writableRows = some held := by
        cases t with
        | history => exact absurd (Or.inl rfl) writable
        | counters => exact absurd (Or.inr (Or.inl rfl)) writable
        | batches => exact absurd (Or.inr (Or.inr rfl)) writable
        | settings => rfl
        | site p => rfl
        | modes p => rfl
        | zones p => rfl
      exact exec_write_refused free (s.judgeWrite_beyond named wh rows beyond) h
    · have guarded : t.writableRows = some held ∧ t.profile = some p := by
        rcases profile with rfl | rfl | rfl <;> exact ⟨rfl, rfl⟩
      exact exec_write_refused free (s.judgeWrite_inUse named wh guarded.1 within guarded.2 used) h
  · refine ⟨readSettings_eq_none_iff row, fun refused => ?_, fun raw read => ?_⟩
    · rw [exec_write_judged free (judgeWrite_settingsRow s len), State.writeRows, List.headD_cons, refused]
    · intro kept silenced moved
      rw [exec_write_judged free (judgeWrite_settingsRow s len), State.writeRows, List.headD_cons, read]
      dsimp only
      rw [State.installSettings_eq, writeResult_eq, rate_keptSettings, rate_keptSettings]
      rfl

end Sys2Proof.Machine
end

section
/-! SUPPORT. WRITE to the tables of a profile: the rows cut from the bytes carried, clamped and put over the old ones (R20 to
R22, R29 to R31, R161, R177). -/

namespace Sys2Proof.Machine

/-! ### Rows cut and put in place -/

theorem rowsOf_eq (size n : Nat) (bytes : List Byte) :
    rowsOf size n bytes = (List.range n).map fun k => (bytes.drop (size * k)).take size := by
  induction n generalizing bytes with
  | zero => rfl
  | succ n ih =>
    rw [rowsOf, ih, List.range_succ_eq_map, List.map_cons, List.map_map]
    simp [Function.comp_def, Nat.mul_succ, Nat.add_comm]

theorem getElem_overwrite {α : Type} {n : Nat} (v : Vector α n) (first : Nat) (xs : List α) (i : Nat) (h : i < n) :
    (overwrite v first xs)[i] = if i < first then v[i] else (xs[i - first]?).getD v[i] := by
  induction xs generalizing v first with
  | nil => simp [overwrite]
  | cons x xs ih =>
    rw [overwrite, ih]
    rcases Nat.lt_trichotomy i first with before | here | after
    · rw [if_pos (by omega), if_pos before]
      split
      · exact Vector.getElem_set_ne _ _ (by omega)
      · rfl
    · subst here
      simp [h]
    · obtain ⟨k, rfl⟩ := Nat.exists_eq_add_of_lt after
      have later : first + k + 1 - first = first + k + 1 - (first + 1) + 1 := by omega
      rw [if_neg (by omega), if_neg (by omega), later, List.getElem?_cons_succ]
      split
      · rw [Vector.getElem_set_ne _ _ (by omega)]
      · rfl

/-- The rows of a WRITE stand from its first row on, and every other row as it stood (R161). -/
theorem overwrite_eq {α : Type} {n : Nat} (v : Vector α n) (first : Nat) (xs : List α) :
    overwrite v first xs =
      Vector.ofFn fun i => if i.val < first then v.get i else (xs[i.val - first]?).getD (v.get i) := by
  refine (ofFn_eq fun i => ?_).symm
  exact (getElem_overwrite v first xs i.val i.isLt).symm

/-! ### The tables of a profile -/

theorem tableOf_site (p : Fin 4) : tableOf (BitVec.ofNat 8 (0x10 + p.val)) = some (.site p) := by
  revert p
  decide

theorem tableOf_modes (p : Fin 4) : tableOf (BitVec.ofNat 8 (0x20 + p.val)) = some (.modes p) := by
  revert p
  decide

theorem tableOf_zones (p : Fin 4) : tableOf (BitVec.ofNat 8 (0x30 + p.val)) = some (.zones p) := by
  revert p
  decide

/-- A mode row is refused for its symbol rate, its level set or its late policy (R30). -/
theorem readMode_eq_none_iff {row : List Byte} (len : row.length = 32) :
    let rate := (row.getD 0 0).toNat * 256 + (row.getD 1 0).toNat
    readMode row = none ↔
      (rate ≠ 0 ∧ (rate < 100 ∨ 9600 < rate)) ∨ 1 < (row.getD 24 0).toNat ∨ 1 < (row.getD 25 0).toNat := by
  intro rate
  have read : natAt row 0 2 = rate := by
    obtain ⟨a, b, rest, rfl⟩ : ∃ a b rest, row = a :: b :: rest := by
      match row, len with
      | a :: b :: rest, _ => exact ⟨a, b, rest, rfl⟩
    simp [natAt, unsignedOf, rate]
  unfold readMode
  simp only [ite_eq_right_iff, reduceCtorEq, imp_false, ModeRow.accepted, modeOf, natAt_one, read, Bool.and_eq_true,
    decide_eq_true_eq, listed_levelSetOf, listed_latePolicyOf, BitVec.ofNat_toNat, BitVec.setWidth_eq]
  omega

/-- A zone row is refused for its zone mode (R30). -/
theorem readZone_eq_none_iff (row : List Byte) : readZone row = none ↔ 2 < (row.getD 0 0).toNat := by
  unfold readZone
  simp only [ite_eq_right_iff, reduceCtorEq, imp_false, zoneOf, natAt_one, listed_zoneModeOf, BitVec.ofNat_toNat,
    BitVec.setWidth_eq]
  omega

/-- The fields of a mode row to the nearer limit (R21, R31). -/
theorem clampMode_eq (m : ModeRow) : clampMode m = { m with
    offset := clampOffset m.offset
    keyLead := min m.keyLead 2000000
    tail := min m.tail 1000000
    joinMin := if m.joinMin < 1 then 1 else if 4096 < m.joinMin then 4096 else m.joinMin
    tolerance := min m.tolerance 100000 } := by
  have from_zero : ∀ hi v, clampNat 0 hi v = min v hi := fun hi v => by unfold clampNat; omega
  simp only [clampMode, from_zero, clampNat_eq (by decide : 1 ≤ 4096)]

/-! ### The rows put in place -/

section
variable (s : State) (h : Handed) (p : Fin 4) (first : Nat) {rows : List (List Byte)}

theorem State.writeRows_modes_refused (refused : rows.mapM readMode = none) :
    s.writeRows h (.modes p) first rows = s.answer h .write .range [] := by
  rw [State.writeRows, refused]

theorem State.writeRows_modes_kept {raw : List ModeRow} (read : rows.mapM readMode = some raw) :
    s.writeRows h (.modes p) first rows =
      (s.setProfile p { s.store.profiles.get p with
        modes := Vector.ofFn fun i => if i.val < first then (s.store.profiles.get p).modes.get i
          else ((raw.map clampMode)[i.val - first]?).getD ((s.store.profiles.get p).modes.get i) }).answer h .write
        (if raw.map clampMode = raw then .done else .clamped) [] := by
  rw [State.writeRows, read]
  dsimp only
  rw [overwrite_eq, writeResult_eq]

theorem State.writeRows_zones_refused (refused : rows.mapM readZone = none) :
    s.writeRows h (.zones p) first rows = s.answer h .write .range [] := by
  rw [State.writeRows, refused]

theorem State.writeRows_zones_kept {raw : List ZoneRow} (read : rows.mapM readZone = some raw) :
    s.writeRows h (.zones p) first rows =
      (s.setProfile p { s.store.profiles.get p with
        zones := Vector.ofFn fun i => if i.val < first then (s.store.profiles.get p).zones.get i
          else ((raw.map clampZone)[i.val - first]?).getD ((s.store.profiles.get p).zones.get i) }).answer h .write
        (if raw.map clampZone = raw then .done else .clamped) [] := by
  rw [State.writeRows, read]
  dsimp only
  rw [overwrite_eq, writeResult_eq]

theorem State.writeRows_site (row : List Byte) :
    s.writeRows h (.site p) first [row] =
      (s.setProfile p { s.store.profiles.get p with siteOffset := clampOffset (intAt row 0 4) }).answer h .write
        (if clampOffset (intAt row 0 4) = intAt row 0 4 then .done else .clamped) [] := by
  rw [← writeResult_eq]
  rfl

end

/-- Settles O55: the WRITE passes its tests, and its rows are read, clamped and put over the old ones. -/
theorem profileWriteReplacesItsRowsAlone : Obligations.ProfileWriteReplacesItsRowsAlone := by
  unfold Obligations.ProfileWriteReplacesItsRowsAlone
  refine ⟨fun s h p first carried free some_bytes active pending => ?_, fun row len => readMode_eq_none_iff len,
    fun row _ => readZone_eq_none_iff row, clampOffset_eq, clampMode_eq, fun z => rfl, rowsOf_eq⟩
  intro s1 f kept modeRows zoneRows
  refine ⟨fun whole within => ?_, fun whole within => ?_, fun len => ?_⟩
  · have judged := State.judgeWrite_profile s (t := .modes p) (tableOf_modes p) ⟨some_bytes, whole⟩ rfl within rfl active
      pending
    have written := exec_write_judged free judged h
    exact ⟨fun refused => written.trans (congrArg _ (s1.writeRows_modes_refused h p _ refused)),
      fun rows read => written.trans (congrArg _ (s1.writeRows_modes_kept h p _ read))⟩
  · have judged := State.judgeWrite_profile s (t := .zones p) (tableOf_zones p) ⟨some_bytes, whole⟩ rfl within rfl active
      pending
    have written := exec_write_judged free judged h
    exact ⟨fun refused => written.trans (congrArg _ (s1.writeRows_zones_refused h p _ refused)),
      fun rows read => written.trans (congrArg _ (s1.writeRows_zones_kept h p _ read))⟩
  · have whole : carried.length % (TableId.site p).rowSize = 0 := by simp [TableId.rowSize, len]
    have one : carried.length / (TableId.site p).rowSize = 1 := by simp [TableId.rowSize, len]
    have judged := State.judgeWrite_profile s (first := 0x00) (t := .site p) (tableOf_site p) ⟨some_bytes, whole⟩ rfl
      (by rw [one]; decide) rfl active pending
    rw [one, rowsOf_one (size := (TableId.site p).rowSize) len] at judged
    exact (exec_write_judged free judged h).trans (congrArg _ (s1.writeRows_site h p _ carried))

end Sys2Proof.Machine
end

section
/-! SUPPORT. The requests that read the state, and the pending switch: STATUS, DIGEST, SWITCH, CANCEL_SWITCH and the switch
event (R28, R32 to R34, R36, R158, R162, R180). -/

namespace Sys2Proof.Machine

/-! ### The switch event -/

theorem State.takeSwitch_eq {s : State} {p : PendingSwitch} (h : s.store.pending = some p) :
    s.takeSwitch = { s with store := { s.store with active := p.target, pending := none } }.clearDependents := by
  simp only [State.takeSwitch, h]

/-- Settles O29: the switch event is due exactly when its instant is reached by a clock that may be trusted. -/
theorem switchEventTakesTheTarget : Obligations.SwitchEventTakesTheTarget := by
  unfold Obligations.SwitchEventTakesTheTarget
  refine fun s p pending => ⟨fun known estimated reached => ⟨s.takeSwitch, congrArg Host.Outcome.next ?_, ?_, ?_⟩,
    fun early => congrArg Host.Outcome.next (if_neg ?_)⟩
  · exact if_pos (s.switchDue_iff.mpr ⟨known, estimated, p, pending, reached⟩)
  · intro i
    rw [State.takeSwitch_eq pending, State.record_clearDependents]
    rfl
  · rw [State.takeSwitch_eq pending]
    rfl
  · rw [State.switchDue_iff]
    rintro ⟨known, estimated, q, pending', reached⟩
    obtain rfl : p = q := Option.some.inj (pending.symm.trans pending')
    obtain unset | unestimated | ahead := early
    · exact known unset
    · exact estimated unestimated
    · omega

/-! ### STATUS and DIGEST -/

theorem flagByte_two (a b : Bool) :
    flagByte [a, b] = BitVec.ofNat 8 ((if a then 1 else 0) + (if b then 2 else 0)) := by
  revert a b
  decide

theorem flagByte_four (a b c d : Bool) :
    flagByte [a, b, c, d] =
      BitVec.ofNat 8 ((if a then 1 else 0) + (if b then 2 else 0) + (if c then 4 else 0) + (if d then 8 else 0)) := by
  revert a b c d
  decide

theorem ClockState.hasEstimate_eq (c : ClockState) : c.hasEstimate = decide (c = .acquiring true) := by
  cases c with
  | acquiring e => cases e <;> rfl
  | unset => rfl
  | locked => rfl
  | holdover => rfl

theorem State.length_statusData (s : State) : s.statusData.length = 32 := by
  cases pending : s.store.pending <;> simp [State.statusData, instantBytes, pending]

theorem exec_status (s : State) (h : Handed) :
    exec (.status h []) s = .next ((s.bump (.mgmt .requestsTaken)).answer h .status .done s.statusData) := by
  have served : ¬ ((s.bump (.mgmt .requestsTaken)).busy = true ∧ Request.status.servedBusy = false) := by
    simp [Request.servedBusy]
  refine congrArg Host.Outcome.next ?_
  rw [State.takeRequest, requestOf_code]
  exact if_neg served

theorem exec_digest {s : State} (free : s.engine = .free) (h : Handed) (b : Byte) :
    exec (.digest h [b]) s = .next ((s.bump (.mgmt .requestsTaken)).doDigest h [b]) :=
  congrArg Host.Outcome.next (State.takeRequest_free free rfl h)

/-- Settles O51: both requests only read, and each field of STATUS stands at its place. -/
theorem statusAndDigestOnlyAnswer : Obligations.StatusAndDigestOnlyAnswer := by
  unfold Obligations.StatusAndDigestOnlyAnswer
  refine ⟨fun s => ⟨s.length_statusData, ?_⟩, fun s h => ⟨exec_status s h, fun free n => ?_, fun free b above => ?_⟩,
    length_profileImage, fun v => ⟨bytesOf_two v, bytesOf_four v⟩⟩
  · simp only [State.statusData, instantBytes, flagByte_two, flagByte_four, State.busy, State.conditions,
      ClockState.hasEstimate_eq, bytesOf_one, List.append_assoc]
    cases s.store.pending <;> rfl
  · have inside : (BitVec.ofNat 8 n.val).toNat = n.val := by
      rw [BitVec.toNat_ofNat]
      omega
    have below : ([BitVec.ofNat 8 n.val].getD 0 (0 : Byte)).toNat < 4 := by
      simp only [List.getD_cons_zero, inside]
      exact n.isLt
    rw [exec_digest free, State.doDigest, dif_pos below]
    simp only [List.getD_cons_zero, inside]
    rfl
  · rw [exec_digest free, State.doDigest, dif_neg (by simp; omega)]

/-! ### SWITCH and CANCEL_SWITCH -/

theorem State.switchHeld_iff (s : State) :
    s.switchHeld = true ↔ s.store.pending ≠ none ∧ ∃ r ∈ s.records, r.dependent = true := by
  simp [State.switchHeld, State.dependentCount, List.length_pos_iff_exists_mem, Option.isSome_iff_ne_none]

theorem natAt_switchSecond (target : Byte) (second : Word32) :
    natAt (target :: bytesOf 4 second.toNat) 1 4 = second.toNat := by
  have bound := second.isLt
  simp only [natAt, fieldAt_cons_of_pos Nat.one_pos, Nat.sub_self, fieldAt_whole (length_bytesOf 4 _), unsignedOf_bytesOf]
  omega

/-- SWITCH is refused for its target or its second (R32). -/
theorem State.doSwitch_bad {s : State} {target : Byte} {second : Word32}
    (bad : 4 ≤ target.toNat ∨ s.store.active.val = target.toNat ∨ secondDiff second (s.time.clock.sec + 1) ≤ 0) (h : Handed) :
    s.doSwitch h (target :: bytesOf 4 second.toNat) = s.answer h .switch .range [] := by
  simp only [State.doSwitch, natAt_switchSecond, List.getD_cons_zero, BitVec.ofNat_toNat, BitVec.setWidth_eq, Fin.ext_iff]
  split
  · next named =>
    rw [if_pos (bad.resolve_left (by omega))]
  · rfl

/-- SWITCH to a profile in reach is held by the batches that depend on the pending switch (R32). -/
theorem State.doSwitch_good {s : State} {target : Byte} {second : Word32} {n : Fin 4} (named : n.val = target.toNat)
    (good : ¬ (4 ≤ target.toNat ∨ s.store.active.val = target.toNat ∨ secondDiff second (s.time.clock.sec + 1) ≤ 0))
    (h : Handed) :
    s.doSwitch h (target :: bytesOf 4 second.toNat) =
      if s.switchHeld then s.answer h .switch .inUse []
      else (s.setPending (some { target := n, second := second })).answer h .switch .done [] := by
  have inside : target.toNat < 4 := by omega
  obtain rfl : n = ⟨target.toNat, inside⟩ := Fin.ext named
  simp only [State.doSwitch, natAt_switchSecond, List.getD_cons_zero, BitVec.ofNat_toNat, BitVec.setWidth_eq, Fin.ext_iff,
    dif_pos inside, if_neg (not_or.mp good).2]

theorem exec_switch {s : State} (free : s.engine = .free) (h : Handed) (target : Byte) (second : Word32) :
    exec (.switch h (target :: bytesOf 4 second.toNat)) s =
      .next ((s.bump (.mgmt .requestsTaken)).doSwitch h (target :: bytesOf 4 second.toNat)) :=
  congrArg Host.Outcome.next (State.takeRequest_free (q := .switch) free
    (by simp [Request.lengthOk, Request.paramBytes]) h)

theorem exec_cancelSwitch {s : State} (free : s.engine = .free) (h : Handed) :
    exec (.cancelSwitch h []) s = .next ((s.bump (.mgmt .requestsTaken)).doCancelSwitch h) :=
  congrArg Host.Outcome.next (State.takeRequest_free free rfl h)

/-- Settles O56: the interlock is one test, and what passes it replaces the pending switch. -/
theorem switchAndCancelHoldTheInterlock : Obligations.SwitchAndCancelHoldTheInterlock := by
  unfold Obligations.SwitchAndCancelHoldTheInterlock
  intro s h target second free s1 params bad held withPending
  have interlock : s1.switchHeld = true ↔ held := s.switchHeld_iff
  have switched : exec (.switch h params) s = .next (s1.doSwitch h params) := exec_switch free h target second
  have cancelled : exec (.cancelSwitch h []) s = .next (s1.doCancelSwitch h) := exec_cancelSwitch free h
  refine ⟨fun refused => ?_, fun good holds => ?_, fun clear n named good => ?_, fun holds => ?_, fun clear some_pending => ?_,
    fun none_pending => ?_⟩
  · rw [switched, State.doSwitch_bad (s := s1) refused]
  · have inside : target.toNat < 4 := by
      by_contra above
      exact good (Or.inl (by omega))
    rw [switched, State.doSwitch_good (s := s1) (n := ⟨target.toNat, inside⟩) rfl good, if_pos (interlock.mpr holds)]
  · rw [switched, State.doSwitch_good (s := s1) named good, if_neg (mt interlock.mp clear)]
    rfl
  · rw [cancelled, State.doCancelSwitch, if_pos (interlock.mpr holds)]
  · rw [cancelled, State.doCancelSwitch, if_neg (mt interlock.mp clear),
      if_pos (show s1.store.pending.isSome = true from Option.isSome_iff_ne_none.mpr some_pending)]
    rfl
  · have clear : ¬ held := fun holds => holds.1 none_pending
    rw [cancelled, State.doCancelSwitch, if_neg (mt interlock.mp clear), if_neg]
    exact fun some_pending => Option.isSome_iff_ne_none.mp some_pending none_pending

end Sys2Proof.Machine
end

section
/-! SUPPORT. STORE, its completion and RECALL: the working state to and from the nonvolatile copy (R37 to R39, R163, R173;
log 12, log 13). -/

namespace Sys2Proof.Machine

/-! ### The NV condition -/

theorem State.setNvFault_true (s : State) : s.setNvFault true =
    { s with
      store := { s.store with nvFault := true }
      latches := if s.store.nvFault then s.latches else s.latches ||| 0x08 } := by
  cases fault : s.store.nvFault <;> simp [State.setNvFault, State.latch, Alarm.bit, fault]

theorem State.setNvFault_false (s : State) : s.setNvFault false = { s with store := { s.store with nvFault := false } } := by
  simp [State.setNvFault]

/-! ### The mixture of the old copy and the new -/

/-- Each bit under a mask is the new one, and every other the old one. -/
theorem getLsbD_mixed {w : Nat} (mask old new : BitVec w) (b : Nat) :
    ((new &&& mask) ||| (old &&& ~~~mask)).getLsbD b = new.getLsbD b
      ∨ ((new &&& mask) ||| (old &&& ~~~mask)).getLsbD b = old.getLsbD b := by
  by_cases inside : b < w
  · cases masked : mask.getLsbD b
    · exact Or.inr (by simp [masked, inside, -BitVec.getLsbD_eq_getElem])
    · exact Or.inl (by simp [masked, -BitVec.getLsbD_eq_getElem])
  · exact Or.inl (by simp [BitVec.getLsbD_of_ge _ _ (Nat.le_of_not_lt inside)])

theorem length_mixedCopy (n : Nat) (old : NvCopy) (snapshot : List Byte) :
    (mixedCopy n old snapshot).bytes.length = snapshot.length := List.length_mapIdx

theorem getD_mixedCopy (n : Nat) (old : NvCopy) {snapshot : List Byte} {i : Nat} (h : i < snapshot.length) :
    (mixedCopy n old snapshot).bytes.getD i 0 =
      mixByte (Config.nvWritten n i) (old.bytes.getD i 0) (snapshot.getD i 0) := by
  simp [mixedCopy, h]

/-! ### The completion of a STORE -/

theorem exec_storeComplete {s : State} {op : StoreOp} (storing : s.engine = .storing op) (verified : Bool) :
    exec (.storeComplete verified) s =
      .next ((s.storeEnded op verified).answer op.handed .store (if verified then .done else .nvFail) []) := by
  simp only [exec, execStoreComplete, storing]

theorem exec_storeComplete_idle {s : State} (idle : ∀ op, s.engine ≠ .storing op) (verified : Bool) :
    exec (.storeComplete verified) s = .next s := by
  cases engine : s.engine with
  | storing op => exact absurd engine (idle op)
  | free => simp only [exec, execStoreComplete, engine]
  | reading op => simp only [exec, execStoreComplete, engine]

theorem State.storeEnded_verified (s : State) (op : StoreOp) : s.storeEnded op true =
    { s with
      engine := .free
      store := { s.store with nv := { bytes := op.snapshot, check := crc16 op.snapshot }, nvFault := false } } :=
  State.setNvFault_false _

theorem State.storeEnded_failed (s : State) (op : StoreOp) : s.storeEnded op false =
    { s with
      engine := .free
      store := { s.store with nv := mixedCopy s.free s.store.nv op.snapshot, nvFault := true }
      latches := if s.store.nvFault then s.latches else s.latches ||| 0x08
      free := s.free + 1 } :=
  State.setNvFault_true _

/-! ### RECALL -/

theorem exec_recall {s : State} (free : s.engine = .free) (h : Handed) :
    exec (.recall h []) s = .next ((s.bump (.mgmt .requestsTaken)).doRecall h) :=
  congrArg Host.Outcome.next (State.takeRequest_free free rfl h)

section
variable {s : State} (h : Handed)

theorem State.doRecall_inUse (used : s.store.pending ≠ none ∨ s.records ≠ []) :
    s.doRecall h = s.answer h .recall .inUse [] :=
  if_pos (used.imp_left Option.isSome_iff_ne_none.mpr)

variable (pending : s.store.pending = none) (records : s.records = [])
include pending records

theorem State.doRecall_fails (failed : readCopy s.store.nv = none) :
    s.doRecall h = (s.setNvFault true).answer h .recall .nvFail [] := by
  simp [State.doRecall, pending, records, failed]

theorem State.doRecall_found {settings : Settings} {profiles : Vector Profile 4} {active : Fin 4}
    (found : readCopy s.store.nv = some (settings, profiles, active)) :
    s.doRecall h = { s with store := { s.store with profiles := profiles, active := active } }.installSettings h settings
      (fun x => x.answer h .recall .done []) := by
  simp [State.doRecall, pending, records, found]

end

/-- Settles O57: the working state goes into the copy whole and comes out of it as it stands. -/
theorem storeAndRecallMoveTheWorkingState : Obligations.StoreAndRecallMoveTheWorkingState := by
  unfold Obligations.StoreAndRecallMoveTheWorkingState
  refine ⟨⟨fun s h free => congrArg Host.Outcome.next (State.takeRequest_free (q := .store) free rfl h),
    fun s op storing => ⟨?_, ?_⟩, fun s idle => exec_storeComplete_idle idle,
    fun n old snapshot => ⟨length_mixedCopy n old snapshot, fun i inside b => ?_⟩⟩,
    fun n old snapshot b => getLsbD_mixed _ _ _ b, fun s h free => ?_⟩
  · rw [exec_storeComplete storing, State.storeEnded_verified]
    rfl
  · rw [exec_storeComplete storing, State.storeEnded_failed]
    rfl
  · dsimp only
    rw [getD_mixedCopy n old inside]
    exact getLsbD_mixed _ _ _ b
  · intro s1
    refine ⟨fun used => ?_, fun pending records failed => ?_, fun settings profiles active pending records found => ?_⟩
    · rw [exec_recall free, State.doRecall_inUse (s := s1) h used]
    · rw [exec_recall free, State.doRecall_fails (s := s1) h pending records ((readCopy_eq_none_iff _).mpr failed),
        State.setNvFault_true]
      rfl
    · intro silenced moved
      rw [exec_recall free, State.doRecall_found (s := s1) h pending records found, State.installSettings_eq]
      rfl

end Sys2Proof.Machine
end

section
/-! SUPPORT. A new batch: its checks in order, the slot it takes, its creating part, and what its creation leaves for the event
that follows (R27, R87 to R92, R96, R109, R114; log 42). -/

namespace Sys2Proof.Machine

/-! ### The slots -/

/-- In a rising list the first entry with a property is the least. -/
theorem find?_eq_some_of_least {n : Nat} {p : Fin n → Bool} {xs : List (Fin n)} {i : Fin n} (rising : xs.Pairwise (· < ·))
    (mem : i ∈ xs) (holds : p i = true) (least : ∀ j < i, p j = false) : xs.find? p = some i := by
  induction xs with
  | nil => cases mem
  | cons x xs ih =>
    obtain ⟨below, rest⟩ := List.pairwise_cons.mp rising
    obtain rfl | later := List.mem_cons.mp mem
    · exact List.find?_cons_of_pos holds
    · rw [List.find?_cons_of_neg (by simp [least x (below i later)]), ih rest later]

/-- The one entry of a list that has something gives all there is. -/
theorem flatMap_eq_of_only {α β : Type} {f : α → List β} {xs : List α} {i : α} (distinct : xs.Nodup) (mem : i ∈ xs)
    (only : ∀ e, e ≠ i → f e = []) : xs.flatMap f = f i := by
  induction xs with
  | nil => cases mem
  | cons x xs ih =>
    obtain ⟨absent, rest⟩ := List.nodup_cons.mp distinct
    obtain rfl | later := List.mem_cons.mp mem
    · have empty : xs.flatMap f = [] :=
        List.flatMap_eq_nil_iff.mpr fun e he => only e fun same => absent (same ▸ he)
      rw [List.flatMap_cons, empty, List.append_nil]
    · rw [List.flatMap_cons, only x fun same => absent (same ▸ later), ih rest later, List.nil_append]

theorem State.lowestFree_eq_none {s : State} (full : ∀ i, s.record i ≠ none) : s.lowestFree = none :=
  List.find?_eq_none.mpr fun i _ => by simpa using full i

theorem State.lowestFree_eq_some {s : State} {i : Slot} (free : s.record i = none)
    (lowest : ∀ j, j < i → s.record j ≠ none) : s.lowestFree = some i :=
  find?_eq_some_of_least (List.pairwise_lt_finRange _) (mem_allSlots i) (by simp [free])
    fun j below => by simpa [Option.isSome_iff_ne_none] using lowest j below

/-! ### The checks of a new batch, in order -/

/-- The zone row a new batch is judged by (R27, R87). -/
def State.zoneFor (s : State) (p : RawPart) : ZoneRow :=
  (s.store.profiles.get (s.profileFor p.tagSec).1).zones.get (Fin.ofNat 64 p.zone)

/-- The mode row a new batch is judged by (R27, R87). -/
def State.modeFor (s : State) (p : RawPart) : ModeRow :=
  (s.store.profiles.get (s.profileFor p.tagSec).1).modes.get (Fin.ofNat 8 p.mode)

section
variable (s : State) (p : RawPart) (l : Link)

theorem State.newBatch_zoneOff (off : (s.zoneFor p).mode.acts = .off) : s.newBatch p l = s.discard .zoneOff := if_pos off

variable (on : (s.zoneFor p).mode.acts ≠ .off)
include on

theorem State.newBatch_noMode (unused : (s.modeFor p).rate = 0) : s.newBatch p l = s.discard .noMode :=
  (if_neg on).trans (if_pos unused)

variable (used : (s.modeFor p).rate ≠ 0)
include used

theorem State.newBatch_tooEarly
    (ahead : (s.store.settings.maxLead * 10000000 : Int) < (s.newRecord p (s.profileFor p.tagSec)).launch.diff s.time.clock) :
    s.newBatch p l = s.discard .tooEarly :=
  (if_neg on).trans ((if_neg used).trans (if_pos (by push_cast; exact ahead)))

variable (near : (s.newRecord p (s.profileFor p.tagSec)).launch.diff s.time.clock ≤ (s.store.settings.maxLead * 10000000 : Int))
include near

theorem State.newBatch_tableFull (full : s.lowestFree = none) : s.newBatch p l = s.overload .tableFull := by
  refine (if_neg on).trans ((if_neg used).trans ((if_neg (by push_cast; omega)).trans ?_))
  rw [full]

theorem State.newBatch_created {i : Slot} (slot : s.lowestFree = some i) :
    s.newBatch p l = s.createRecord i
      (initialState (s.zoneFor p).mode.acts s.time.clock (s.newRecord p (s.profileFor p.tagSec))) p l := by
  refine (if_neg on).trans ((if_neg used).trans ((if_neg (by push_cast; omega)).trans ?_))
  rw [slot]
  rfl

end

theorem State.profileFor_of_none {s : State} (h : s.store.pending = none) (tagSec : Word32) :
    s.profileFor tagSec = (s.store.active, false) := by
  simp only [State.profileFor, h]

theorem State.profileFor_of_some {s : State} {q : PendingSwitch} (h : s.store.pending = some q) (tagSec : Word32) :
    s.profileFor tagSec =
      if 0 ≤ secondDiff tagSec q.second then (q.target, true) else (s.store.active, false) := by
  simp only [State.profileFor, h]

/-! ### The creating part -/

section
variable {u : State} {i : Slot} {q : Record} (there : u.record i = some q) (p : RawPart) (l : Link)
include there

theorem State.placeFirstPart_shadow (shadow : q.state = .shadow) : u.placeFirstPart i p l = u.takeToShadow i q p l := by
  simp only [State.placeFirstPart, there, if_pos shadow]

theorem State.placeFirstPart_refused (waiting : q.state ≠ .shadow)
    (short : u.symbols.allocate p.share p.symbols = none) : u.placeFirstPart i p l = u.overload .storeFull := by
  simp only [State.placeFirstPart, there, if_neg waiting, State.storePart, short]

theorem State.placeFirstPart_stored (waiting : q.state ≠ .shadow) (inside : p.index < 16) {chain : List Block}
    {store : SymbolStore} (taken : u.symbols.allocate p.share p.symbols = some (chain, store)) :
    u.placeFirstPart i p l =
      (({ u with symbols := store }.setRecord i { q.accept p.index l with
        chains := q.chains.set p.index chain inside }).bump (.link l .partsTaken)).completeRecord i := by
  simp only [State.placeFirstPart, there, if_neg waiting, State.storePart, taken, dif_pos inside]
  rfl

end

/-! ### What a creation leaves for the event that follows -/

section
variable {s v : State} {i : Slot} {r : Record} (fresh : s.record i = none) (there : v.record i = some r)
include fresh there

/-- A record created waiting meets its deadline next when it has been reached (R90, R109). -/
theorem State.newlyDue_assembling (assembling : r.state = .assembling) (in_time : r.late = false) :
    State.newlyDue s v i = if r.deadline.diff v.time.clock ≤ 0 then [.deadline i] else [] := by
  simp [State.newlyDue, there, fresh, State.deadlineDue, State.keptEndDue, State.launchMissed, State.keyUpReached,
    State.retiresNext, State.retirementDue, assembling, in_time, Instant.reached]

/-- A record created SHADOW retires next when its retirement instant has been reached (R90, R114). -/
theorem State.newlyDue_shadow (shadow : r.state = .shadow) :
    State.newlyDue s v i =
      if (r.nominalEnd.add v.store.settings.guard).diff v.time.clock ≤ 0 then [.retirement i] else [] := by
  have due : State.retiresNext s v i = true ↔ (r.nominalEnd.add v.store.settings.guard).diff v.time.clock ≤ 0 := by
    simp [State.retiresNext, State.isShadow, fresh, State.retirementDue_iff, there, shadow]
  simp [State.newlyDue, there, fresh, State.deadlineDue, State.keptEndDue, State.launchMissed, State.keyUpReached, shadow,
    due]

end

section
variable {s v : State} {i : Slot} {r : Record} (there : v.record i = some r)
  (others : ∀ e, e ≠ i → v.record e = s.record e) (keying : v.keying = s.keying) (pacer : v.pacer = s.pacer)
include there others keying pacer

/-- No block is wanted for a record that is not keyed (R141, R142). -/
theorem State.blockWanted_of_created (unkeyed : ¬ r.keyed) (wanted : v.blockWanted.isSome = true) :
    s.blockWanted.isSome = true := by
  rw [State.blockWanted_isSome_iff] at wanted ⊢
  obtain ⟨e, q, held, current, cause⟩ := wanted
  have other : e ≠ i := by
    rintro rfl
    obtain rfl : r = q := Option.some.inj (there.symm.trans held)
    exact unkeyed (cause.elim (fun air => Or.inr air.2.1) fun waits => Or.inl waits.1)
  rw [keying] at current
  rw [keying, pacer] at cause
  exact ⟨e, q, (others e other).symm.trans held, current, cause⟩

/-- A creation that touches its own record alone leaves what that record meets (R89, R130). -/
theorem State.followCreation_created (unkeyed : ¬ r.keyed) : State.followCreation s v = v.follow (State.newlyDue s v i) := by
  have slots : allSlots.flatMap (State.newlyDue s v) = State.newlyDue s v i :=
    flatMap_eq_of_only (List.nodup_finRange _) (mem_allSlots i) fun e other => State.newlyDue_of_same s v e (others e other)
  have no_read : ¬ (v.blockWanted.isSome = true ∧ s.blockWanted.isSome = false) := fun ⟨wanted, unwanted⟩ => by
    rw [State.blockWanted_of_created there others keying pacer unkeyed wanted] at unwanted
    cases unwanted
  rw [State.followCreation, slots, if_neg no_read, List.append_nil]

end

/-- Settles O37: the checks in order, the creating part by its record, and the one record that a creation can leave due. -/
theorem newBatchIsJudgedInOrder : Obligations.NewBatchIsJudgedInOrder := by
  unfold Obligations.NewBatchIsJudgedInOrder
  refine ⟨fun s p l => ?_, ⟨rfl, rfl, rfl, fun c => rfl⟩, fun s i r q p l => ?_,
    fun s v i r fresh there others keying pacer => ?_⟩
  · intro sel f zone row r ahead limit
    exact ⟨fun none_pending => State.profileFor_of_none none_pending _, fun q pending => State.profileFor_of_some pending _,
      s.newBatch_zoneOff p l, s.newBatch_noMode p l, s.newBatch_tooEarly p l,
      fun on used near full => s.newBatch_tableFull p l on used near (State.lowestFree_eq_none full),
      fun i on used near free lowest => s.newBatch_created p l on used near (State.lowestFree_eq_some free lowest)⟩
  · intro u taken there
    exact ⟨State.placeFirstPart_shadow there p l, State.placeFirstPart_refused there p l,
      fun inside chain store waiting allocated => State.placeFirstPart_stored there p l waiting inside allocated⟩
  · have waits : r.state = .assembling → State.followCreation s v = v.follow (State.newlyDue s v i) := fun assembling =>
      State.followCreation_created there others keying pacer (GuardedMove.not_keyed_of_assembling assembling)
    have ended : r.state = .shadow → State.followCreation s v = v.follow (State.newlyDue s v i) := fun shadow =>
      State.followCreation_created there others keying pacer (GuardedMove.not_keyed_of_shadow shadow)
    refine ⟨fun assembling in_time reached => ?_, fun assembling in_time ahead => ?_, fun shadow ahead => ?_,
      fun shadow reached => ?_⟩
    · rw [waits assembling, State.newlyDue_assembling fresh there assembling in_time, if_pos reached]
      rfl
    · rw [waits assembling, State.newlyDue_assembling fresh there assembling in_time, if_neg (by omega), State.follow_nil]
    · rw [ended shadow, State.newlyDue_shadow fresh there shadow, if_neg (by omega), State.follow_nil]
    · rw [ended shadow, State.newlyDue_shadow fresh there shadow, if_pos reached]
      rfl

end Sys2Proof.Machine
end

section
/-! SUPPORT. What a record keeps while it holds its slot: the relation on records, closed under composition, and every
operation of the model by what it does to the batch table (R56, R106, R107, R110, R133). -/

namespace Sys2Proof.Machine

/-! ### One record -/

namespace Record.Grows

theorem refl (r : Record) : r.Grows r where
  number := rfl
  zone := rfl
  mode := rfl
  cls := rfl
  tag := rfl
  total := rfl
  partCount := rfl
  profileUsed := rfl
  row := rfl
  launch := rfl
  inc := rfl
  nominalEnd := rfl
  first := le_rfl
  last := le_rfl
  late h := h
  joined h := h
  parts := BitVec.and_self
  shadow h := ⟨h, rfl⟩
  sent := le_rfl

theorem trans {a b c : Record} (h : a.Grows b) (h' : b.Grows c) : a.Grows c where
  number := h'.number.trans h.number
  zone := h'.zone.trans h.zone
  mode := h'.mode.trans h.mode
  cls := h'.cls.trans h.cls
  tag := h'.tag.trans h.tag
  total := h'.total.trans h.total
  partCount := h'.partCount.trans h.partCount
  profileUsed := h'.profileUsed.trans h.profileUsed
  row := h'.row.trans h.row
  launch := h'.launch.trans h.launch
  inc := h'.inc.trans h.inc
  nominalEnd := h'.nominalEnd.trans h.nominalEnd
  first := h.first.trans h'.first
  last := h'.last.trans h.last
  late l := h'.late (h.late l)
  joined l := h'.joined (h.joined l)
  parts := by rw [← h.parts, BitVec.and_assoc, h'.parts]
  shadow e := ⟨(h'.shadow (h.shadow e).1).1, ((h'.shadow (h.shadow e).1).2).trans (h.shadow e).2⟩
  sent := h.sent.trans h'.sent

/-- The kept key-up and the deadline are no part of what a record keeps (R53, R54). -/
theorem setKeyUp {r q : Record} (h : r.Grows q) (keyUp deadline : Instant) :
    r.Grows { q with keptKeyUp := keyUp, deadline := deadline } := { h with }

theorem reformed {r q : Record} (h : r.Grows q) (margin : Nat) : r.Grows (q.reformed margin) := h.setKeyUp _ _

/-- A record that is not SHADOW goes to another state. -/
theorem setState {r : Record} (h : r.state ≠ .shadow) (c : RecordState) : r.Grows { r with state := c } :=
  { refl r with shadow := fun e => absurd e h }

/-- A part's index is added to those present (R86, R91). -/
theorem accept (r : Record) (index : Nat) (l : Link) : r.Grows (r.accept index l) :=
  { refl r with
    parts := by
      ext
      simp only [Record.accept, BitVec.getElem_and, BitVec.getElem_or]
      exact inf_sup_self }

/-- A head winner raises j alone (R127). -/
theorem headTrim (guard margin : Nat) (w l : Record) : l.Grows (headTrim guard margin w l) := by
  unfold Machine.headTrim
  dsimp only
  split
  · next raised =>
    have longer : l.Grows { l with j := headBoundary guard w l } := { refl l with first := raised.le }
    exact longer.reformed margin
  · exact refl l

/-- A tail winner lowers k alone (R128). -/
theorem tailTrim (guard : Nat) (w l : Record) : l.Grows (tailTrim guard w l) := by
  unfold Machine.tailTrim
  dsimp only
  split
  · next lowered => exact { refl l with last := lowered.le }
  · exact refl l

end Record.Grows

/-- A decision is due of a record whose key-up is reached (R139). -/
theorem State.keyUpReached_of_keyUpDue {s : State} {i : Slot} (due : s.keyUpDue i = true) : s.keyUpReached i = true := by
  simp only [State.keyUpDue, Bool.and_eq_true] at due
  obtain ⟨⟨reached, -⟩, -⟩ := due
  exact reached

/-! ### The relation on states -/

/-- Every record after the move stood in its slot before it, and has grown from what it was. A slot may be freed. -/
def RecordsKept (s t : State) : Prop := ∀ i r', t.record i = some r' → ∃ r, s.record i = some r ∧ r.Grows r'

/-- Every record after the move has grown from what it was, or stands in a slot that was FREE. -/
def RecordsCome (s t : State) : Prop :=
  ∀ i r', t.record i = some r' → s.record i = none ∨ ∃ r, s.record i = some r ∧ r.Grows r'

namespace RecordsCome

/-- A record that keeps its slot has grown. -/
theorem grow {s t : State} (h : RecordsCome s t) : RecordsGrow s t := by
  intro i r r' hr hr' _
  rcases h i r' hr' with free | ⟨q, hq, grows⟩
  · cases hr.symm.trans free
  · cases hr.symm.trans hq
    exact grows

theorem of_kept {s t : State} (h : RecordsKept s t) : RecordsCome s t := fun i r' hr' => Or.inr (h i r' hr')

/-- A move that may create a record, then one that creates none. -/
theorem trans {s u t : State} (h : RecordsCome s u) (h' : RecordsKept u t) : RecordsCome s t := by
  intro i r' hr'
  obtain ⟨q, hq, grows'⟩ := h' i r' hr'
  exact (h i q hq).imp_right fun ⟨r, hr, grows⟩ => ⟨r, hr, grows.trans grows'⟩

/-- A move that may create a record, out of a state that has the table of another. -/
theorem via {s u t : State} (h : RecordsCome u t) (htable : u.table = s.table) : RecordsCome s t := fun i r' hr' => by
  rw [← State.record_of_table u s i htable]
  exact h i r' hr'

theorem ite {s t u : State} {p : Prop} [Decidable p] (ht : RecordsCome s t) (hu : RecordsCome s u) :
    RecordsCome s (if p then t else u) := by
  split
  · exact ht
  · exact hu

/-- A record put in a slot that is FREE (R88). -/
theorem create {s : State} {i : Slot} (free : s.record i = none) (r : Record) : RecordsCome s (s.setRecord i r) := by
  intro j r' hr'
  by_cases e : j = i
  · exact Or.inl (e ▸ free)
  · rw [State.record_setRecord_other s i j r e] at hr'
    exact Or.inr ⟨r', hr', .refl r'⟩

end RecordsCome

namespace RecordsKept

theorem of_table {s t : State} (htable : t.table = s.table) : RecordsKept s t := fun i r' hr' =>
  ⟨r', (State.record_of_table t s i htable).symm.trans hr', .refl r'⟩

theorem refl (s : State) : RecordsKept s s := of_table rfl

theorem trans {s u t : State} (h : RecordsKept s u) (h' : RecordsKept u t) : RecordsKept s t := by
  intro i r' hr'
  obtain ⟨q, hq, grows'⟩ := h' i r' hr'
  obtain ⟨r, hr, grows⟩ := h i q hq
  exact ⟨r, hr, grows.trans grows'⟩

/-- A move out of a state that has the table of another. -/
theorem via {s u t : State} (h : RecordsKept u t) (htable : u.table = s.table) : RecordsKept s t :=
  (of_table htable).trans h

theorem ite {s t u : State} {p : Prop} [Decidable p] (ht : RecordsKept s t) (hu : RecordsKept s u) :
    RecordsKept s (if p then t else u) := by
  split
  · exact ht
  · exact hu

theorem foldl {α : Type} {f : State → α → State} (hf : ∀ s a, RecordsKept s (f s a)) (xs : List α) (s : State) :
    RecordsKept s (xs.foldl f s) := by
  induction xs generalizing s with
  | nil => exact refl s
  | cons x xs ih => exact (hf s x).trans (ih (f s x))

/-- An empty table holds no record to account for. -/
theorem of_empty {s t : State} (h : t.table = Vector.replicate Config.slots none) : RecordsKept s t := by
  intro i r' hr'
  rw [State.record_of_empty h i] at hr'
  cases hr'

/-! ### Operations that leave the table -/

theorem bump (s : State) (c : Counter) : RecordsKept s (s.bump c) := of_table rfl
theorem latch (s : State) (a : Alarm) : RecordsKept s (s.latch a) := of_table rfl
theorem follow (s : State) (cs : List Instr) : RecordsKept s (s.follow cs) := of_table rfl
theorem releaseBlocks (s : State) (r : Record) : RecordsKept s (s.releaseBlocks r) := of_table rfl
theorem setProfile (s : State) (p : Fin 4) (f : Profile) : RecordsKept s (s.setProfile p f) := of_table rfl
theorem setNvFault (s : State) (f : Bool) : RecordsKept s (s.setNvFault f) := of_table (by simp)
theorem setLink (s : State) (l : Link) (c : CarriageLink) : RecordsKept s (s.setLink l c) := of_table (by simp)
theorem endAttempt (s : State) (l : Link) (d : Disposition) : RecordsKept s (s.endAttempt l d) := of_table (by simp)
theorem placeReply (s : State) (l : Link) (body : List Byte) : RecordsKept s (s.placeReply l body) := of_table (by simp)
theorem enterIdle (s : State) : RecordsKept s s.enterIdle := of_table rfl
theorem enterTail (s : State) (row : ModeRow) (strobe : Bool) : RecordsKept s (s.enterTail row strobe) :=
  of_table (by simp)
theorem tailFromHold (s : State) : RecordsKept s s.tailFromHold := enterTail s _ _
theorem zeroTail (s : State) : RecordsKept s s.zeroTail := of_table (State.zeroTail_table s)
theorem takeCarry (s : State) : RecordsKept s s.takeCarry := of_table rfl
theorem considerNext (s : State) : RecordsKept s s.considerNext := follow s _
theorem retireNext (before s : State) : RecordsKept s (State.retireNext before s) := follow s _

/-! ### Records -/

/-- A record that has grown put in its slot. -/
theorem setRecord {s : State} {i : Slot} {q r : Record} (hq : s.record i = some q) (h : q.Grows r) :
    RecordsKept s (s.setRecord i r) := by
  intro j r' hr'
  by_cases e : j = i
  · subst e
    rw [State.record_setRecord_same] at hr'
    cases hr'
    exact ⟨q, hq, h⟩
  · rw [State.record_setRecord_other s i j r e] at hr'
    exact ⟨r', hr', .refl r'⟩

theorem freeSlot (s : State) (i : Slot) : RecordsKept s (s.freeSlot i) := by
  intro j r' hr'
  rw [State.record_freeSlot] at hr'
  split at hr'
  · cases hr'
  · exact ⟨r', hr', .refl r'⟩

/-- The dependent mark is no part of what a record keeps (R28). -/
theorem clearDependents (s : State) : RecordsKept s s.clearDependents := by
  intro j r' hr'
  rw [State.record_clearDependents, Option.map_eq_some_iff] at hr'
  obtain ⟨q, hq, rfl⟩ := hr'
  exact ⟨q, hq, { Record.Grows.refl q with }⟩

theorem becomeShadow (s : State) (i : Slot) (o : BatchOutcome) : RecordsKept s (s.becomeShadow i o) := by
  rcases State.becomeShadow_cases s i o with ⟨_, e⟩ | ⟨r, hr, live, e⟩
  · rw [e]
    exact refl s
  · rw [e]
    exact (releaseBlocks s r).trans (setRecord (q := r) hr
      { Record.Grows.refl r with shadow := fun h => absurd h live })

theorem retire (s : State) (i : Slot) (r : Record) (o : BatchOutcome) : RecordsKept s (s.retire i r o) :=
  (releaseBlocks s r).trans ((freeSlot _ i).trans (of_table rfl))

theorem retireShadow (s : State) (i : Slot) : RecordsKept s (s.retireShadow i) := by
  unfold State.retireShadow
  split
  · exact refl s
  · split
    · exact retire s i _ _
    · exact refl s

/-- The join rule raises j and never lowers it (R111). -/
theorem joinRule {s : State} {i : Slot} {r : Record} (hr : s.record i = some r) (live : r.state ≠ .shadow) :
    RecordsKept s (s.joinRule i r) := by
  refine ite (becomeShadow s i _) (setRecord hr (.reformed ?_ _))
  exact { Record.Grows.refl r with
    first := le_max_right _ _
    joined := fun h => by simp [h]
    shadow := fun h => absurd h live }

theorem completeRecord (s : State) (i : Slot) : RecordsKept s (s.completeRecord i) := by
  unfold State.completeRecord
  split
  · exact refl s
  · next r hr =>
    split
    · next due =>
      have live : r.state ≠ .shadow := by simp [due.1]
      exact ite (joinRule hr live) (setRecord hr (.setState live _))
    · exact refl s

theorem deadlineActs (s : State) (i : Slot) : RecordsKept s (s.deadlineActs i) := by
  unfold State.deadlineActs
  split
  · exact refl s
  · next r hr => exact ite (becomeShadow s i _) (setRecord hr { Record.Grows.refl r with late := fun _ => rfl })

theorem setPending (s : State) (p : Option PendingSwitch) : RecordsKept s (s.setPending p) := (clearDependents _).via rfl

theorem takeSwitch (s : State) : RecordsKept s s.takeSwitch := by
  unfold State.takeSwitch
  split
  · exact refl s
  · exact (clearDependents _).via rfl

/-! ### Keying -/

theorem dropRecord (s : State) (i : Slot) (o : BatchOutcome) : RecordsKept s (s.dropRecord i o) := by
  have shadow := becomeShadow s i o
  unfold State.dropRecord
  split
  · exact refl s
  · dsimp only
    split
    · exact shadow.trans (enterTail _ _ _)
    · exact shadow.trans (tailFromHold _)
    · exact shadow

/-- The first symbol is counted (R141). -/
theorem startSymbols {s : State} {i : Slot} {r : Record} (hr : s.record i = some r) (live : r.state ≠ .shadow) :
    RecordsKept s (s.startSymbols i) := by
  have started : RecordsKept s (s.setRecord i { r with state := .onAir, sent := r.sent + 1 }) :=
    setRecord hr { Record.Grows.refl r with sent := Nat.le_succ _, shadow := fun h => absurd h live }
  unfold State.startSymbols
  simp only [hr]
  exact started.trans (of_table rfl)

theorem becomeKeying {s : State} {i : Slot} {r : Record} (hr : s.record i = some r) (live : r.state ≠ .shadow) :
    RecordsKept s (s.becomeKeying i r) := by
  have keying := setRecord hr (.setState live .keying)
  unfold State.becomeKeying
  dsimp only
  split <;> exact keying.trans (of_table rfl)

theorem refuseKeyUp (s : State) (i : Slot) (o : BatchOutcome) : RecordsKept s (s.refuseKeyUp i o) := by
  have shadow := becomeShadow s i o
  unfold State.refuseKeyUp
  dsimp only
  split
  · exact shadow.trans ((tailFromHold _).trans (zeroTail _))
  · exact shadow

/-- A record that is decided is READY, so it is not SHADOW (R139). -/
theorem decideKeyUp {s : State} {i : Slot} (due : s.keyUpReached i = true) : RecordsKept s (s.decideKeyUp i) := by
  obtain ⟨r, hr, ready, -⟩ := (State.keyUpReached_iff s i).mp due
  have live : r.state ≠ .shadow := by simp [ready]
  have keying := becomeKeying hr live
  have there := GuardedMove.becomeKeying_record s i r i
  rw [if_pos rfl] at there
  have refused : ∀ a o, RecordsKept s ((s.latch a).refuseKeyUp i o) := fun a o =>
    (latch s a).trans (refuseKeyUp _ i o)
  unfold State.decideKeyUp
  simp only [hr]
  refine ite (refused _ _) (ite (refused _ _) ?_)
  split
  · exact keying.trans ((latch _ _).trans ((dropRecord _ _ _).trans (zeroTail _)))
  · next img _ =>
    have held : RecordsKept (s.becomeKeying i r) { s.becomeKeying i r with
        pacer := { acc := 0, symbol := r.j, block := some img, next := none } } := of_table rfl
    exact ite ((keying.trans held).trans (startSymbols there (by simp))) (keying.trans held)

theorem decideThenNext {s : State} {i : Slot} (due : s.keyUpDue i = true) : RecordsKept s (s.decideThenNext i) :=
  have decided := decideKeyUp (State.keyUpReached_of_keyUpDue due)
  ite (decided.trans (considerNext _)) decided

/-- A decision where one is due. -/
theorem decideWhenDue (s : State) (i : Slot) : RecordsKept s (if s.keyUpDue i then s.decideThenNext i else s) := by
  split
  · next due => exact decideThenNext due
  · exact refl s

theorem decideIfDue (s : State) : RecordsKept s s.decideIfDue := by
  unfold State.decideIfDue
  split
  · exact refl s
  · exact decideWhenDue s _

theorem afterTailEntry (before s : State) : RecordsKept s (State.afterTailEntry before s) :=
  ite ((ite (decideIfDue s) (refl s)).trans (zeroTail _)) (refl s)

theorem settleKeying (before s : State) : RecordsKept s (State.settleKeying before s) :=
  (ite (tailFromHold s) (refl s)).trans (afterTailEntry before _)

theorem readOnAir {s : State} {i : Slot} {r : Record} (hr : s.record i = some r) (b : Nat) :
    RecordsKept s (s.readOnAir i r b) := by
  unfold State.readOnAir
  split
  · exact of_table rfl
  · exact (latch s _).trans (setRecord hr { Record.Grows.refl r with })

theorem readBeforeLaunch (s : State) (i : Slot) (r : Record) (b : Nat) : RecordsKept s (s.readBeforeLaunch i r b) := by
  unfold State.readBeforeLaunch
  split
  · exact of_table rfl
  · exact (latch s _).trans ((dropRecord _ i _).trans (settleKeying s _))

theorem endOfSymbols (s : State) (i : Slot) (r : Record) : RecordsKept s (s.endOfSymbols i r) := by
  have retired := retire s i r r.airOutcome
  have tail := retired.trans ((enterTail _ r.row true).trans (afterTailEntry s _))
  unfold State.endOfSymbols
  dsimp only
  split
  · exact tail
  · exact ite (retired.trans ((decideWhenDue _ _).via rfl)) tail

theorem stopRecord (s : State) (i : Slot) (r : Record) (o : BatchOutcome) : RecordsKept s (s.stopRecord i r o) :=
  (becomeShadow s i o).trans ((enterTail _ _ _).trans (afterTailEntry s _))

/-- A symbol put out is counted (R142). -/
theorem nextSymbol {s : State} {i : Slot} {r : Record} (hr : s.record i = some r) : RecordsKept s (s.nextSymbol i r) :=
  (setRecord (r := { r with sent := r.sent + 1 }) hr { Record.Grows.refl r with sent := Nat.le_succ _ }).trans
    (of_table rfl)

theorem carry (s : State) : RecordsKept s s.carry := by
  unfold State.carry
  split
  · exact refl s
  · split
    · exact refl s
    · next i _ _ r hr =>
      have onward : RecordsKept s (if r.k ≤ s.pacer.symbol + 1 then s.takeCarry.endOfSymbols i r
          else s.takeCarry.nextSymbol i r) :=
        (takeCarry s).trans (ite (endOfSymbols _ _ _) (nextSymbol hr))
      dsimp only
      split
      · exact ite ((takeCarry s).trans (stopRecord _ _ _ _)) onward
      · exact onward

/-! ### The conflict resolver -/

theorem trimWaiting {s : State} {i : Slot} {l : Record} (hl : s.record i = some l) (guard : Nat) (w : Record) :
    RecordsKept s (s.trimWaiting guard i w l) := by
  have trimmed : l.Grows (if headWinner w l then headTrim guard s.store.settings.setupMargin w l
      else tailTrim guard w l) := by
    split
    · exact .headTrim guard _ w l
    · exact .tailTrim guard w l
  have judged := setRecord hl trimmed
  exact ite (refl s) (ite (judged.trans (dropRecord _ _ _)) judged)

theorem trimOnAir {s : State} {i : Slot} {l : Record} (hl : s.record i = some l) (guard : Nat) (iw : Slot)
    (w : Record) : RecordsKept s (s.trimOnAir guard i iw w l) := by
  have dropped := becomeShadow s iw .droppedLate
  refine ite (ite dropped (refl s)) ?_
  dsimp only
  split
  · exact refl s
  · next longer => exact ite (setRecord hl { Record.Grows.refl l with last := (not_le.mp longer).le }) dropped

theorem trim {s : State} {i : Slot} {l : Record} (hl : s.record i = some l) (guard : Nat) (iw : Slot)
    (w : Record) : RecordsKept s (s.trim guard i iw w l) := by
  unfold State.trim
  split
  · exact refl s
  · exact trimOnAir hl guard iw w
  all_goals exact trimWaiting hl guard w

theorem firstPass (guard : Nat) (new : Slot) (s : State) (e : Slot) :
    RecordsKept s (State.firstPass guard new s e) := by
  refine ite (refl s) ?_
  split
  · next hr _ => exact ite (trim hr guard e _) (refl s)
  · exact refl s

theorem secondPass (guard : Nat) (new : Slot) (s : State) (e : Slot) :
    RecordsKept s (State.secondPass guard new s e) := by
  refine ite (refl s) ?_
  split
  · next hl => exact ite (trim hl guard new _) (refl s)
  · exact refl s

theorem resolve (s : State) (new : Slot) : RecordsKept s (s.resolve new) :=
  (foldl (firstPass _ new) allSlots s).trans (foldl (secondPass _ new) allSlots _)

/-! ### A step of the clock (R121) -/

theorem stepDeadline (p q : Instant) (s : State) (i : Slot) : RecordsKept s (stepDeadline p q s i) := by
  unfold Machine.stepDeadline
  split
  · exact ite (deadlineActs s i) (refl s)
  · exact refl s

theorem stepKeptEnd (p q : Instant) (s : State) (i : Slot) : RecordsKept s (stepKeptEnd p q s i) := by
  unfold Machine.stepKeptEnd
  split
  · exact ite (becomeShadow s i _) (refl s)
  · exact refl s

theorem stepReady (p q : Instant) (s : State) (i : Slot) : RecordsKept s (stepReady p q s i) := by
  unfold Machine.stepReady
  split
  · refine ite (ite (becomeShadow s i _) ?_) (refl s)
    split
    · next due => exact decideKeyUp (State.keyUpReached_of_keyUpDue due.2)
    · exact refl s
  · exact refl s

theorem stepRecord (p q : Instant) (s : State) (i : Slot) : RecordsKept s (stepRecord p q s i) :=
  ((stepDeadline p q s i).trans (stepKeptEnd p q _ i)).trans (stepReady p q _ i)

theorem stepClock (s : State) (second : Word32) : RecordsKept s (s.stepClock second) := by
  have locked : RecordsKept s { s with time := { s.time with clock := ⟨second, 0⟩ } }.enterLocked := of_table (by simp)
  have pass : ∀ u : State, RecordsKept u (u.stepPass s.time.clock ⟨second, 0⟩) := fun u =>
    ite (refl u) ((foldl (stepRecord _ _) _ u).trans (foldl retireShadow _ _))
  exact locked.trans ((ite (takeSwitch _) (refl _)).trans (pass _))

theorem ppsEdge (s : State) : RecordsKept s s.ppsEdge := by
  have started : ∀ (t : TimeUnit) (e : Bool), RecordsKept s (s.edgeTaken.edgeStarts t e) := fun t e => of_table (by
    unfold State.edgeStarts
    split <;> simp)
  have counted : (s.edgeTaken.runCounted s.time).table = s.table := State.edgeTaken_table s
  unfold State.ppsEdge
  dsimp only
  split
  · exact started _ _
  · rw [State.edgeAcquiring_eq]
    split
    · exact of_table counted
    · exact ite (of_table counted) (ite (of_table (by simpa using counted)) (ite ((stepClock _ _).via counted)
        (of_table counted)))
  · refine of_table ?_
    unfold State.edgeLocked
    split
    · exact State.edgeTaken_table s
    · split <;> simp
  · exact started _ _

/-! ### Links and replies -/

theorem answer (s : State) (h : Handed) (q : Request) (res : Result) (data : List Byte) :
    RecordsKept s (s.answer h q res data) := by
  rcases State.answer_cases s h q res data with ⟨_, e⟩ | ⟨_, e⟩
  · rw [e]
    exact placeReply s _ _
  · rw [e]
    exact refl s

theorem applyRate (s : State) (l : Link) (code : Nat) : RecordsKept s (s.applyRate l code) :=
  ite (setLink s l _) ((setLink s l _).trans (endAttempt _ _ _))

theorem silenceCheck (s : State) (l : Link) : RecordsKept s (s.silenceCheck l) :=
  ite ((setLink s l _).trans (latch _ _)) (refl s)

theorem rateFollows (h : Handed) (old new : Settings) (s : State) (l : Link) :
    RecordsKept s (State.rateFollows h old new s l) :=
  ite (refl s) (ite (setLink s l _) (applyRate s l _))

theorem installSettings (s : State) (h : Handed) (new : Settings) {reply : State → State}
    (hreply : ∀ u, RecordsKept u (reply u)) : RecordsKept s (s.installSettings h new reply) :=
  (of_table rfl : RecordsKept s { s with store := { s.store with settings := new } }).trans
    ((silenceCheck _ .a).trans ((silenceCheck _ .b).trans ((hreply _).trans
      ((rateFollows _ _ _ _ _).trans (rateFollows _ _ _ _ _)))))

/-! ### The management engine -/

theorem writeRows (s : State) (h : Handed) (t : TableId) (first : Nat) (rows : List (List Byte)) :
    RecordsKept s (s.writeRows h t first rows) := by
  have refused : ∀ res, RecordsKept s (s.answer h .write res []) := fun res => answer s h _ res []
  have replaced : ∀ p f res, RecordsKept s ((s.setProfile p f).answer h .write res []) := fun p f res =>
    (setProfile s p f).trans (answer _ h _ res [])
  cases t with
  | settings =>
    simp only [State.writeRows]
    split
    · exact refused _
    · exact installSettings s h _ fun u => answer u h _ _ _
  | site p => exact replaced p _ _
  | modes p =>
    simp only [State.writeRows]
    split
    · exact refused _
    · exact replaced p _ _
  | zones p =>
    simp only [State.writeRows]
    split
    · exact refused _
    · exact replaced p _ _
  | history => exact refused _
  | counters => exact refused _
  | batches => exact refused _

theorem placeReadFrame (s : State) (op : ReadOp) : RecordsKept s (s.placeReadFrame op) :=
  (placeReply s op.handed.link _).trans (of_table rfl)

theorem doRead (s : State) (h : Handed) (params : List Byte) : RecordsKept s (s.doRead h params) := by
  unfold State.doRead
  dsimp only
  split
  · exact answer s h _ _ _
  · split
    · exact answer s h _ _ _
    · refine ite (answer s h _ _ _) ?_
      split
      · exact ite (placeReadFrame s _) (of_table rfl)
      all_goals exact refl s

theorem doSwitch (s : State) (h : Handed) (params : List Byte) : RecordsKept s (s.doSwitch h params) := by
  have answered : ∀ res, RecordsKept s (s.answer h .switch res []) := fun res => answer s h _ res []
  unfold State.doSwitch
  dsimp only
  split
  · exact ite (answered _) (ite (answered _) ((setPending s _).trans (answer _ h _ _ _)))
  · exact answered _

theorem doRecall (s : State) (h : Handed) : RecordsKept s (s.doRecall h) := by
  refine ite (answer s h _ _ _) ?_
  split
  · exact (setNvFault s true).trans (answer _ h _ _ _)
  · exact (installSettings _ h _ fun u => answer u h _ _ _).via rfl

/-- An abort sets a stop on the air, leaves a SHADOW record, and drops any other (R118, R119). -/
theorem abortRecord (s : State) (i : Slot) : RecordsKept s (s.abortRecord i) := by
  unfold State.abortRecord
  split
  · exact refl s
  · next r hr =>
    split
    · exact refl s
    · exact ite (setRecord hr { Record.Grows.refl r with }) (refl s)
    all_goals exact dropRecord s i _

theorem doAbort (s : State) (h : Handed) (params : List Byte) : RecordsKept s (s.doAbort h params) := by
  have settled : ∀ u, RecordsKept s u →
      RecordsKept s ((State.retireNext s (State.settleKeying s u)).answer h .abort .done []) := fun u hu =>
    hu.trans ((settleKeying s u).trans ((retireNext s _).trans (answer _ h _ _ _)))
  refine ite ?_ (ite (settled _ (foldl abortRecord allSlots s)) (answer s h _ _ _))
  split
  · exact answer s h _ _ _
  · exact settled _ (abortRecord s _)

theorem doSetLinkRate (s : State) (h : Handed) (params : List Byte) : RecordsKept s (s.doSetLinkRate h params) := by
  unfold State.doSetLinkRate
  dsimp only
  split
  · exact answer s h _ _ _
  · next l _ =>
    have changed : RecordsKept s { s with store := { s.store with
        settings := s.store.settings.setRate l (params.getD 1 0).toNat } } := of_table rfl
    exact ite (changed.trans ((answer _ h _ _ _).trans (rateFollows _ _ _ _ _))) (answer s h _ _ _)

theorem carryOut (s : State) (q : Request) (h : Handed) (params : List Byte) :
    RecordsKept s (s.carryOut q h params) := by
  match q with
  | .status => exact answer s h _ _ _
  | .read => exact doRead s h params
  | .write =>
    simp only [State.carryOut, State.doWrite]
    split
    · exact answer s h _ _ _
    · exact writeRows s h _ _ _
  | .digest =>
    simp only [State.carryOut, State.doDigest]
    split <;> exact answer s h _ _ _
  | .switch => exact doSwitch s h params
  | .cancelSwitch =>
    exact ite (answer s h _ _ _) (ite ((setPending s _).trans (answer _ h _ _ _)) (answer s h _ _ _))
  | .store => exact of_table rfl
  | .recall => exact doRecall s h
  | .abort => exact doAbort s h params
  | .ackAlarms => exact (answer _ h _ _ _).via rfl
  | .clearCounters => exact (answer _ h _ _ _).via rfl
  | .setLinkRate => exact doSetLinkRate s h params
  | .restart => exact (answer s h .restart .done []).trans (of_table rfl)

theorem storeEnded (s : State) (op : StoreOp) (verified : Bool) : RecordsKept s (s.storeEnded op verified) :=
  ite ((setNvFault _ _).via rfl) ((setNvFault _ _).via rfl)

theorem takeRequest (s : State) (code : Byte) (h : Handed) (params : List Byte) :
    RecordsKept s (s.takeRequest code h params) := by
  refine (bump s (.mgmt .requestsTaken)).trans ?_
  unfold State.takeRequest
  dsimp only
  split
  · unfold State.misunderstood
    split
    · exact placeReply _ _ _
    all_goals exact refl _
  · refine ite ?_ (ite (carryOut _ _ h params) (answer _ h _ _ _))
    unfold State.turnAway
    split
    · exact (bump _ _).trans (answer _ h _ _ _)
    all_goals exact bump _ _

/-! ### Admission -/

theorem takeToShadow {s : State} {i : Slot} {r : Record} (hr : s.record i = some r) (p : RawPart) (l : Link) :
    RecordsKept s (s.takeToShadow i r p l) :=
  (setRecord hr (.accept r p.index l)).trans ((bump _ _).trans (bump _ _))

theorem storePart {s : State} {i : Slot} {r : Record} (hr : s.record i = some r) (p : RawPart) (l : Link) :
    RecordsKept s (s.storePart i r p l) := by
  unfold State.storePart
  split
  · exact of_table rfl
  · next chain store _ =>
    have accepted := Record.Grows.accept r p.index l
    have stored : RecordsKept s { s with symbols := store } := of_table rfl
    refine stored.trans (RecordsKept.trans (setRecord (q := r) hr ?_) ((bump _ _).trans (completeRecord _ i)))
    split
    · exact { accepted with }
    · exact accepted

theorem placeFirstPart (s : State) (i : Slot) (p : RawPart) (l : Link) : RecordsKept s (s.placeFirstPart i p l) := by
  unfold State.placeFirstPart
  split
  · exact refl s
  · next hr => exact ite (takeToShadow hr p l) (storePart hr p l)

theorem knownBatch {s : State} {i : Slot} {r : Record} (hr : s.record i = some r) (p : RawPart) (l : Link) :
    RecordsKept s (s.knownBatch i r p l) := by
  refine ite (of_table rfl) (ite (of_table rfl) ?_)
  split
  · exact takeToShadow hr p l
  · exact storePart hr p l
  all_goals exact of_table rfl

end RecordsKept

end Sys2Proof.Machine
end

section
/-! SUPPORT. A record is created in a slot that was FREE alone, so over a step a record that keeps its slot keeps what its
creation fixed (R56, R88, R133). -/

namespace Sys2Proof.Machine

/-! ### Admission -/

namespace RecordsCome

theorem of_table {s t : State} (htable : t.table = s.table) : RecordsCome s t := of_kept (.of_table htable)

/-- A new batch takes the lowest FREE slot, and what follows in its taking creates nothing (R88, R89). -/
theorem newBatch (s : State) (p : RawPart) (l : Link) : RecordsCome s (s.newBatch p l) := by
  refine ite (of_table rfl) (ite (of_table rfl) (ite (of_table rfl) ?_))
  split
  · exact of_table rfl
  · next i slot =>
    have free : s.record i = none := by simpa using List.find?_some slot
    exact (create free _).trans ((RecordsKept.resolve _ i).trans (.placeFirstPart _ i p l))

theorem takePart (s : State) (l : Link) (body : List Byte) : RecordsCome s (s.takePart l body) := by
  refine ite (of_table rfl) (ite (of_table rfl) (ite (of_table rfl) (ite (of_table rfl) ?_)))
  split
  · split
    · next hr =>
      exact of_kept ((RecordsKept.knownBatch hr _ l).trans ((RecordsKept.settleKeying s _).trans (.of_table rfl)))
    · exact of_table rfl
  · exact (newBatch s _ l).trans ((RecordsKept.settleKeying s _).trans (.of_table rfl))

theorem takeFrame (s : State) (l : Link) (body : List Byte) : RecordsCome s (s.takeFrame l body) := by
  refine ite (takePart s l body) (ite (ite (of_table rfl) ?_) (of_table rfl))
  dsimp only
  split
  · exact of_table rfl
  · exact of_kept (.takeRequest s _ _ _)

theorem arbiterChooses (s : State) : RecordsCome s s.arbiterChooses := by
  refine ite (of_table rfl) ?_
  split
  · exact of_table rfl
  · dsimp only
    split
    · exact of_table rfl
    · exact (takeFrame _ _ _).via (by simp)

theorem receiveByte (s : State) (l : Link) (b : Byte) : RecordsCome s (s.receiveByte l b) := by
  have moved : ∀ d, RecordsCome s (s.deframe l d) := fun d => of_kept (.setLink s l _)
  have ended : ∀ d, RecordsCome s (s.endAttempt l d) := fun d => of_kept (.endAttempt s l d)
  unfold State.receiveByte
  split
  · exact ite (moved _) (of_table rfl)
  · exact moved _
  · exact ite (ended _) (ite (ended _) (moved _))
  · exact ite (moved _) (moved _)
  · exact moved _
  · exact ite (ended _) (ite (ended _) ((arbiterChooses _).via (by simp)))

end RecordsCome

/-! ### The commands -/

theorem RecordsKept.replyGone (s : State) (l : Link) : RecordsKept s (s.replyGone l) := by
  unfold State.replyGone
  extract_lets c gone held rated begun
  have sent : RecordsKept s gone := (setLink s l _).trans (bump _ _)
  have changed : RecordsKept s rated := by
    unfold rated
    split
    · exact sent
    · exact sent.trans (ite (applyRate _ l _) (setLink _ l _))
  have next : RecordsKept s begun := changed.trans (setLink _ l _)
  split
  · exact ite (next.trans (of_table rfl)) next
  · exact next

/-- What a command does to the batch table. -/
theorem exec_recordsCome {c : Instr} {s t : State} (h : exec c s = .next t) : RecordsCome s t := by
  cases hc : touchesGate c with
  | true =>
    rcases exec_touching hc h with ⟨rfl, rfl⟩ | ⟨rfl, rfl⟩ | ⟨table, -⟩
    · exact .of_kept (.of_empty rfl)
    · exact .of_kept (.ppsEdge s)
    · exact .of_table table
  | false =>
    match c with
    | .leadByte l => cases h; exact .receiveByte s l _
    | .frameByte l b | .lengthEnd l b | .frameEnd l b => cases h; exact .receiveByte s l b
    | .admissionFree => cases h; exact (RecordsCome.arbiterChooses _).via rfl
    | .warmRestart => cases h; exact .of_kept (.ite (.ite (.of_table rfl) (.of_empty rfl)) (.refl s))
    | .switchEvent => cases h; exact .of_kept (.ite (.takeSwitch s) (.refl s))
    | .badChar l =>
      cases h
      split
      · exact .of_table rfl
      · exact .of_kept (.endAttempt s l _)
    | .gap l => cases h; exact .of_kept (.ite (.endAttempt s l _) (.refl s))
    | .silenceTimeout l => cases h; exact .of_kept (.silenceCheck s l)
    | .deadline i =>
      cases h
      exact .of_kept ((RecordsKept.ite ((RecordsKept.deadlineActs s i).trans (.settleKeying s _)) (.refl s)).trans
        (.retireNext s _))
    | .keptEndWhileLate i | .missedLaunch i =>
      cases h
      exact .of_kept ((RecordsKept.ite ((RecordsKept.becomeShadow s i _).trans (.settleKeying s _)) (.refl s)).trans
        (.retireNext s _))
    | .keyUp i => cases h; exact .of_kept ((RecordsKept.decideWhenDue s i).trans (.retireNext s _))
    | .retirement i => cases h; exact .of_kept (.ite (.retireShadow s i) (.refl s))
    | .launch =>
      cases h
      split
      · next i due =>
        obtain ⟨_, _, r, there, keying, _⟩ := (State.launchDue_eq_some_iff s i).mp due
        exact .of_kept (.startSymbols there (by simp [keying]))
      · exact .of_table rfl
    | .pacerCarry => cases h; exact .of_kept ((RecordsKept.ite (.carry s) (.refl s)).trans (.retireNext s _))
    | .blockRead =>
      cases h
      refine .of_kept (RecordsKept.trans ?_ (.retireNext s _))
      split
      · exact .refl s
      · next i r b wanted =>
        obtain ⟨_, there, _⟩ := (State.blockWanted_eq_some_iff s i r b).mp wanted
        exact .ite (.readOnAir there b) (.readBeforeLaunch s i r b)
    | .tailEnd =>
      cases h
      exact .of_kept ((RecordsKept.ite ((RecordsKept.enterIdle s).trans (.decideIfDue _)) (.refl s)).trans
        (.retireNext s _))
    | .status h' params | .read h' params | .write h' params | .digest h' params | .switch h' params
    | .cancelSwitch h' params | .store h' params | .recall h' params | .abort h' params | .ackAlarms h' params
    | .clearCounters h' params | .setLinkRate h' params | .restart h' params =>
      cases h
      exact .of_kept (.takeRequest s _ h' params)
    | .notUnderstood h' code params => cases h; exact .of_kept (.takeRequest s code h' params)
    | .storeComplete verified =>
      cases h
      split
      · exact .of_kept ((RecordsKept.storeEnded s _ verified).trans (.answer _ _ _ _ _))
      · exact .of_table rfl
    | .readFramePlaced =>
      cases h
      split
      · exact .of_kept (.ite (.placeReadFrame s _) (.refl s))
      · exact .of_table rfl
    | .readStall => cases h; exact .of_kept (.ite (.of_table rfl) (.refl s))
    | .replySent l => cases h; exact .of_kept (.ite (.replyGone s l) (.refl s))
    | .coldStart | .refLost | .refBack | .ppsEdge | .ppsMissing | .todLeadByte _ | .todMessage _ _ _ _ | .secondBoundary
    | .txrdyFall => cases hc

/-- Settles O10: a beat leaves the table, and a command frees slots, lets records grow, or creates one in a FREE slot. -/
theorem recordRangesOnlyShrink : Obligations.RecordRangesOnlyShrink := by
  unfold Obligations.RecordRangesOnlyShrink
  intro s t h
  rcases step_cases h with rfl | ⟨c, p, f, run, -⟩
  · exact (RecordsCome.of_table (by rw [State.beat_eq])).grow
  · exact ((exec_recordsCome run).via rfl).grow

end Sys2Proof.Machine
end

section
/-! SUPPORT. Launch instant arithmetic: an instant and a count, the boundary function with its searches, and the preload with
the pacer that starts from it (R44, R45, R49, R51, R52, R57, R58). -/

namespace Sys2Proof.Machine

/-! ### An instant and a count (R44, R45) -/

/-- The second difference is the difference modulo 2^32, in the half range on each side of 0 (R44). -/
theorem secondDiff_eq (a b : Word32) :
    secondDiff a b = if ((a.toNat : Int) - b.toNat) % 4294967296 < 2147483648
      then ((a.toNat : Int) - b.toNat) % 4294967296 else ((a.toNat : Int) - b.toNat) % 4294967296 - 4294967296 := by
  have residue : ((a - b).toNat : Int) = ((a.toNat : Int) - b.toNat) % 4294967296 := by
    rw [BitVec.toNat_sub]
    omega
  rw [secondDiff, BitVec.toInt_eq_toNat_cond, ← residue]
  split <;> split <;> omega

/-- The tick of a sum, carried or borrowed out of the second (R45). -/
theorem Instant.tick_add (x : Instant) (c : Int) :
    ((x.add c).tick.val : Int) = ((x.tick.val : Int) + c) % 10000000 := by
  simp only [Instant.add, Config.ticksPerSecond, Fin.ofNat]
  omega

/-- The second of a sum, modulo 2^32 (R45). -/
theorem Instant.sec_add (x : Instant) (c : Int) :
    ((x.add c).sec.toNat : Int) = ((x.sec.toNat : Int) + ((x.tick.val : Int) + c) / 10000000) % 4294967296 := by
  simp only [Instant.add, Config.ticksPerSecond, BitVec.toNat_add, BitVec.toNat_ofInt]
  omega

/-- An instant is its second and its tick. -/
theorem Instant.eq_of_values {x y : Instant} (sec : (x.sec.toNat : Int) = y.sec.toNat)
    (tick : (x.tick.val : Int) = y.tick.val) : x = y := by
  obtain ⟨xs, xt⟩ := x
  obtain ⟨ys, yt⟩ := y
  cases BitVec.eq_of_toNat_eq (Int.ofNat_inj.mp sec)
  cases Fin.ext (Int.ofNat_inj.mp tick)
  rfl

/-- Counts add up (R45). -/
theorem Instant.add_add (x : Instant) (a b : Int) : (x.add a).add b = x.add (a + b) := by
  refine Instant.eq_of_values ?_ ?_
  · rw [Instant.sec_add, Instant.sec_add, Instant.sec_add, Instant.tick_add]
    omega
  · rw [Instant.tick_add, Instant.tick_add, Instant.tick_add]
    omega

/-- Settles O17, by the second and the tick of a sum. -/
theorem instantPlusCountDiffersByIt : Obligations.InstantPlusCountDiffersByIt := by
  unfold Obligations.InstantPlusCountDiffersByIt
  exact ⟨fun x c lo hi => x.diff_add_self c (by omega) (by omega), Instant.add_add, secondDiff_eq, fun _ _ => rfl,
    fun x c => ⟨x.tick_add c, x.sec_add c⟩⟩

/-! ### The boundary function (R49) -/

/-- A boundary is reached exactly when the phase has come to its symbol: the boundary function and the phase are adjoint. -/
theorem ticksOf_le_iff {inc : Nat} (pos : 1 ≤ inc) (m t : Nat) : ticksOf inc m ≤ t ↔ m * 2 ^ 32 ≤ t * inc := by
  rw [ticksOf, Nat.div_le_iff_le_mul_add_pred pos, Nat.mul_comm inc t]
  omega

@[simp] theorem ticksOf_zero {inc : Nat} (pos : 1 ≤ inc) : ticksOf inc 0 = 0 :=
  Nat.le_zero.mp ((ticksOf_le_iff pos 0 0).mpr (by omega))

/-- At its boundary a symbol's phase has been reached, -/
theorem phase_le_ticksOf_mul {inc : Nat} (pos : 1 ≤ inc) (m : Nat) : m * 2 ^ 32 ≤ ticksOf inc m * inc :=
  (ticksOf_le_iff pos m _).mp le_rfl

/-- and passed by less than one increment. -/
theorem ticksOf_mul_lt {inc : Nat} (pos : 1 ≤ inc) (m : Nat) : ticksOf inc m * inc < m * 2 ^ 32 + inc := by
  have := Nat.div_mul_le_self (m * 2 ^ 32 + (inc - 1)) inc
  rw [ticksOf]
  omega

/-- Below 2^32 ticks to a symbol no two boundaries fall together. -/
theorem ticksOf_lt_succ {inc : Nat} (pos : 1 ≤ inc) (small : inc < 2 ^ 32) (m : Nat) :
    ticksOf inc m < ticksOf inc (m + 1) := by
  have passed := ticksOf_mul_lt pos m
  rw [← not_le, ticksOf_le_iff pos]
  omega

/-! ### The searches (R51, R52) -/

/-- The first boundary at or after a distance: the symbols from it on are those whose boundaries are not before it. -/
theorem firstBoundary_le_iff {inc : Nat} (pos : 1 ≤ inc) (d : Int) (m : Nat) :
    firstBoundary inc d ≤ m ↔ d ≤ (ticksOf inc m : Int) := by
  unfold firstBoundary
  split
  · omega
  · next later =>
    have before := ticksOf_le_iff pos m (d.toNat - 1)
    have quotient := Nat.div_lt_iff_lt_mul (x := (d.toNat - 1) * inc) (y := m) (Nat.two_pow_pos 32)
    omega

/-- The last boundary at or before a distance: the symbols up to it are those whose boundaries are not after it. -/
theorem le_lastBoundary_iff {inc : Nat} (pos : 1 ≤ inc) {d : Int} (h : 0 ≤ d) (m : Nat) :
    m ≤ lastBoundary inc d ↔ (ticksOf inc m : Int) ≤ d := by
  rw [lastBoundary, if_neg (by omega), Nat.le_div_iff_mul_le (Nat.two_pow_pos 32), ← ticksOf_le_iff pos]
  omega

/-- The symbol in progress is the one whose boundary is reached and whose successor's is not. -/
theorem phase_div_eq_iff {inc : Nat} (pos : 1 ≤ inc) (t m : Nat) :
    t * inc / 2 ^ 32 = m ↔ ticksOf inc m ≤ t ∧ t < ticksOf inc (m + 1) := by
  rw [← not_le (a := ticksOf inc (m + 1)), ticksOf_le_iff pos, ticksOf_le_iff pos]
  omega

/-- Settles O18: each search is adjoint to the boundary function. -/
theorem boundarySearchesAreExact : Obligations.BoundarySearchesAreExact := by
  unfold Obligations.BoundarySearchesAreExact
  intro inc pos small
  refine ⟨ticksOf_zero pos, ticksOf_lt_succ pos small, fun d => ?_, fun d h => ?_, fun d h => if_pos h,
    phase_div_eq_iff pos⟩
  · exact ⟨(firstBoundary_le_iff pos d _).mp le_rfl, fun m => (firstBoundary_le_iff pos d m).mpr⟩
  · exact ⟨(le_lastBoundary_iff pos h _).mp le_rfl, fun m => (le_lastBoundary_iff pos h m).mpr⟩

/-! ### The launch (R57, R141) -/

/-- The preload is the phase by which symbol j's boundary passes it. -/
theorem preloadOf_add {inc : Nat} (pos : 1 ≤ inc) (j : Nat) : preloadOf inc j + j * 2 ^ 32 = ticksOf inc j * inc :=
  Nat.sub_add_cancel (phase_le_ticksOf_mul pos j)

theorem preloadOf_lt {inc : Nat} (pos : 1 ≤ inc) (j : Nat) : preloadOf inc j < inc := by
  have sum := preloadOf_add pos j
  have passed := ticksOf_mul_lt pos j
  omega

theorem preloadOf_zero {inc : Nat} (pos : 1 ≤ inc) : preloadOf inc 0 = 0 := by simp [preloadOf, pos]

/-- The symbols of a record started: ON_AIR, symbol j counted and put out under its preload (R57, R141; log 32). -/
theorem State.startSymbols_eq {s : State} {i : Slot} {r : Record} (hr : s.record i = some r) :
    s.startSymbols i = { s.setRecord i { r with state := .onAir, sent := r.sent + 1 } with
      keying :=
        { state := .symbols, current := some i, bridged := none, restRow := some r.row, endInstant := none,
          tailEnd := none, mod := levelWord r.row (s.symbolValue r r.j), modstb := true, txrdy := s.keying.txrdy }
      pacer := { s.pacer with acc := preloadOf r.inc r.j, symbol := r.j } } := by
  simp only [State.startSymbols, hr]
  rfl

/-- The launch command starts the symbols of the record whose launch is due (R141). -/
theorem exec_launch_of_due {s : State} {i : Slot} (due : s.launchDue = some i) :
    exec .launch s = .next (s.startSymbols i) := by
  simp [exec, execLaunch, due]

/-- Settles O19, by the preload's sum and the state after the start. -/
theorem launchLoadsThePreload : Obligations.LaunchLoadsThePreload := by
  unfold Obligations.LaunchLoadsThePreload
  refine ⟨fun inc j pos => ⟨preloadOf_add pos j, preloadOf_lt pos j, preloadOf_zero pos⟩, fun s i r hr => ?_,
    fun s i => exec_launch_of_due⟩
  rw [State.startSymbols_eq hr]
  exact ⟨rfl, rfl, rfl, rfl⟩

end Sys2Proof.Machine
end

section
/-! SUPPORT. The pacer: a tick adds the increment, a carry takes 2^32 off and puts the next symbol out; and where a symbol is
found (R58, R97, R100, R103, R142, R143). -/

namespace Sys2Proof.Machine

/-! ### A tick -/

/-- A tick in SYMBOLS adds the current record's increment (R142). -/
theorem State.clockTick_pacer {s : State} {i : Slot} {r : Record} (sending : s.keying.state = .symbols)
    (current : s.keying.current = some i) (hr : s.record i = some r) :
    s.clockTick.pacer = { s.pacer with acc := s.pacer.acc + r.inc } := by
  rw [State.clockTick_eq]
  simp [sending, current, hr]

/-- A beat ticks the pacer exactly when it advances the site clock (R4, R142). -/
theorem State.beat_pacer (s : State) :
    s.beat.pacer = if (if s.time.refPresent then Config.refEdge s.free else Config.loCycle s.free)
      then s.clockTick.pacer else s.pacer := by
  rw [State.beat_eq, State.clockTick_eq]
  dsimp only
  cases (if s.time.refPresent then Config.refEdge s.free else Config.loCycle s.free)
  · simp only [Bool.false_eq_true, if_false, false_and]
  · simp only [if_true, true_and]

/-! ### A carry short of the end -/

/-- A move after which no record is SHADOW that was not so before leaves no retirement (R114). -/
theorem State.retireNext_of_isShadow {before s : State} (h : ∀ i, s.isShadow i = true → before.isShadow i = true) :
    State.retireNext before s = s := by
  refine State.retireNext_without before s fun i => ?_
  cases due : s.retirementDue i with
  | false => simp [State.retiresNext, due]
  | true => simp [State.retiresNext, h i (State.isShadow_of_retirementDue due)]

/-- The value of a symbol is read off the blocks that the pacer holds and the store. -/
theorem State.symbolValue_of_blocks {s t : State} (block : t.pacer.block = s.pacer.block)
    (next : t.pacer.next = s.pacer.next) (symbols : t.symbols = s.symbols) (r : Record) (m : Nat) :
    t.symbolValue r m = s.symbolValue r m := by
  simp only [State.symbolValue, block, next, symbols]

/-- The state after a carry that puts out the next symbol (R58, R142). -/
def State.nextSent (s : State) (i : Slot) (r : Record) : State :=
  let m := s.pacer.symbol + 1
  { s.setRecord i { r with sent := r.sent + 1 } with
    pacer :=
      { acc := ((s.pacer.acc : Int) - 4294967296).toNat, symbol := m,
        block := if m % 256 = 0 then s.pacer.next else s.pacer.block,
        next := if m % 256 = 0 then none else s.pacer.next }
    keying := { s.keying with mod := levelWord r.row (s.symbolValue r m), modstb := true } }

theorem State.nextSymbol_takeCarry (s : State) (i : Slot) (r : Record) :
    s.takeCarry.nextSymbol i r = s.nextSent i r := by
  have value : ∀ m, s.takeCarry.symbolValue r m = s.symbolValue r m :=
    State.symbolValue_of_blocks rfl rfl rfl r
  simp only [State.nextSymbol, value, decide_eq_true_eq]
  rfl

/-- A carry short of the kept end and of any stop puts out the next symbol (R142, R143). -/
theorem exec_pacerCarry_next {s : State} {i : Slot} {r : Record} (due : s.carryDue = true)
    (current : s.keying.current = some i) (hr : s.record i = some r) (short : s.pacer.symbol + 1 < r.k)
    (running : ∀ st, r.stop = some st → s.pacer.symbol < st.symbol) : exec .pacerCarry s = .next (s.nextSent i r) := by
  have carried : s.carry = s.nextSent i r := by
    rw [← State.nextSymbol_takeCarry]
    unfold State.carry
    simp only [current, hr, if_neg (not_le.mpr short)]
    split
    · next st stopped => rw [if_neg (not_le.mpr (running st stopped))]
    · rfl
  have shadows : ∀ j, (s.nextSent i r).isShadow j = true → s.isShadow j = true := by
    intro j
    have there : (s.nextSent i r).record j = if j = i then some { r with sent := r.sent + 1 } else s.record j :=
      State.record_setRecord s i j _
    by_cases e : j = i
    · subst e
      rw [if_pos rfl] at there
      rw [State.isShadow_eq there, State.isShadow_eq hr]
      exact id
    · rw [if_neg e] at there
      simp only [State.isShadow, there]
      exact id
  simp only [exec, execPacerCarry, due, if_true, carried, State.retireNext_of_isShadow shadows]

/-- Settles O20: the phase invariant, kept by a tick and by a carry, and the boundary at which the carry comes due. -/
theorem pacerKeepsTheBoundaries : Obligations.PacerKeepsTheBoundaries := by
  unfold Obligations.PacerKeepsTheBoundaries
  intro s i r t sending current hr pos _ phase
  refine ⟨?_, s.beat_pacer, ?_, fun due running short => ⟨s.nextSent i r, ?_, rfl, ?_⟩⟩
  · rw [State.clockTick_pacer sending current hr, Nat.succ_mul, ← phase]
    dsimp only
    omega
  · rw [State.carryDue_iff, ticksOf_le_iff pos, ← phase]
    simp only [sending, true_and]
    omega
  · exact exec_pacerCarry_next due current hr short fun st stopped => by simp [running] at stopped
  · obtain ⟨-, carry⟩ := (State.carryDue_iff s).mp due
    rw [← phase]
    simp only [State.nextSent]
    omega

/-! ### Levels and symbols -/

/-- The level of a symbol by its level set (R143; log 13). -/
theorem levelWord_eq (row : ModeRow) (v : Fin 4) :
    levelWord row v.val = if row.levelSet.sendsFour then row.levels.get v
      else if v.val < 2 then row.levels.get 0 else row.levels.get 3 := by
  simp [levelWord]

/-- Two neighbouring bits of a byte, read as a number. -/
theorem twoBits (b : Byte) (p : Nat) :
    b.toNat / 2 ^ p % 4 = 2 * (b.getLsbD (p + 1)).toNat + (b.getLsbD p).toNat := by
  rw [BitVec.getLsbD, BitVec.getLsbD, Nat.toNat_testBit, Nat.toNat_testBit, Nat.pow_succ, ← Nat.div_div_eq_div_mul]
  omega

/-- Four symbols lie in a byte, the first in the two most significant bits (R97). -/
theorem symbolAt_eq (bytes : List Byte) (pos : Nat) :
    symbolAt bytes pos = 2 * ((bytes.getD (pos / 4) 0).getLsbD (7 - 2 * (pos % 4))).toNat
      + ((bytes.getD (pos / 4) 0).getLsbD (6 - 2 * (pos % 4))).toNat := by
  have place : 7 - 2 * (pos % 4) = (6 - 2 * (pos % 4)) + 1 := by omega
  have power : 4 ^ (3 - pos % 4) = 2 ^ (6 - 2 * (pos % 4)) := by
    rw [show 6 - 2 * (pos % 4) = 2 * (3 - pos % 4) by omega, Nat.pow_mul]
  rw [symbolAt, power, place, twoBits]

/-- The entry of a part's chain that holds a symbol (R100). -/
theorem Record.blockOf_eq (r : Record) (m : Nat) (h : m / 1024 < 16) :
    r.blockOf (m / 256) = (r.chains.get ⟨m / 1024, h⟩)[(m - 1024 * (m / 1024)) / 256]? := by
  have part : m / 256 / 4 = m / 1024 := by omega
  have entry : m / 256 % 4 = (m - 1024 * (m / 1024)) / 256 := by omega
  simp only [Record.blockOf, part, entry, h, dif_pos]

section
variable {s : State} {r : Record} {m : Nat} {img : BlockImage}

/-- A symbol is taken from the block being sent from, where that holds it (R142), -/
theorem State.symbolValue_of_block (held : s.pacer.block = some img) (here : img.index = m / 256) :
    s.symbolValue r m = symbolAt img.bytes (m % 256) := by
  simp [State.symbolValue, held, here]

/-- else from the next block once read, -/
theorem State.symbolValue_of_next (elsewhere : s.pacer.block.map (·.index) ≠ some (m / 256))
    (held : s.pacer.next = some img) (here : img.index = m / 256) :
    s.symbolValue r m = symbolAt img.bytes (m % 256) := by
  cases block : s.pacer.block with
  | none => simp [State.symbolValue, block, held, here]
  | some i =>
    have other : i.index ≠ m / 256 := by simpa [block] using elsewhere
    simp [State.symbolValue, block, other, held, here]

/-- else out of the store (log 35). -/
theorem State.symbolValue_of_store (elsewhere : s.pacer.block.map (·.index) ≠ some (m / 256))
    (unread : s.pacer.next.map (·.index) ≠ some (m / 256)) {n : Block} (stored : r.blockOf (m / 256) = some n) :
    s.symbolValue r m = symbolAt (s.symbols.blockBytes n) (m % 256) := by
  have other : ∀ i, s.pacer.block = some i → i.index ≠ m / 256 := fun i held same => elsewhere (by simp [held, same])
  have other' : ∀ i, s.pacer.next = some i → i.index ≠ m / 256 := fun i held same => unread (by simp [held, same])
  unfold State.symbolValue
  cases block : s.pacer.block with
  | none =>
    cases next : s.pacer.next with
    | none => simp [stored]
    | some j => simp [stored, other' j next]
  | some i =>
    cases next : s.pacer.next with
    | none => simp [stored, other i block]
    | some j => simp [stored, other i block, other' j next]

end

/-- Settles O46: the carry, the levels, the launch, and where a symbol is found. -/
theorem carryPutsOutTheNextSymbol : Obligations.CarryPutsOutTheNextSymbol := by
  unfold Obligations.CarryPutsOutTheNextSymbol
  refine ⟨fun s i r sending full current hr short running => ?_, fun row v => ?_,
    fun s i r waiting current hr keying due => ?_, symbolAt_eq, Record.blockOf_eq,
    fun s r m => ⟨fun img => State.symbolValue_of_block, fun img => State.symbolValue_of_next,
      fun n elsewhere unread => State.symbolValue_of_store elsewhere unread⟩⟩
  · exact exec_pacerCarry_next ((State.carryDue_iff s).mpr ⟨sending, full⟩) current hr short running
  · rw [levelWord_eq]
    refine ⟨fun four => ?_, fun two => ?_, fun c unlisted => ?_⟩
    · rw [four]
      rfl
    · rw [two]
      rfl
    · rw [unlisted]
      rfl
  · rw [exec_launch_of_due ((State.launchDue_eq_some_iff s i).mpr ⟨current, waiting, r, hr, keying, due⟩),
      State.startSymbols_eq hr]

end Sys2Proof.Machine
end

section
/-! SUPPORT. Retirement: the entry, the outcome, the blocks and the slot; and the retirements that an event leaves for the next
(R50, R114, R115, R117, R168, R169; log 42). -/

namespace Sys2Proof.Machine

/-- A SHADOW record whose widened end is reached retires with its outcome (R115). -/
theorem exec_retirement_due {s : State} {i : Slot} {r : Record} {o : BatchOutcome} (hr : s.record i = some r)
    (state : r.state = .shadow) (shadow : r.shadow = some o)
    (reached : (r.nominalEnd.add s.store.settings.guard).diff s.time.clock ≤ 0) :
    exec (.retirement i) s = .next (s.retire i r o) := by
  have due : s.retirementDue i = true := (State.retirementDue_iff s i).mpr ⟨r, hr, state, reached⟩
  simp [exec, execRetirement, due, State.retireShadow, hr, state, shadow]

/-- Before that the command changes nothing (log 3). -/
theorem exec_retirement_early {s : State} {i : Slot} {r : Record} (hr : s.record i = some r)
    (ahead : 0 < (r.nominalEnd.add s.store.settings.guard).diff s.time.clock) : exec (.retirement i) s = .next s := by
  have early : ¬ s.retirementDue i = true := by
    rw [State.retirementDue_iff]
    rintro ⟨q, hq, -, reached⟩
    cases hr.symm.trans hq
    omega
  simp [exec, execRetirement, early]

/-- A retirement frees the slot and no other. -/
theorem State.record_retire (s : State) (i j : Slot) (r : Record) (o : BatchOutcome) :
    (s.retire i r o).record j = if j = i then none else s.record j :=
  State.record_freeSlot (s.releaseBlocks r) i j

/-- The oldest entry goes where 64 are held (R168). -/
theorem appendHistory_eq (h : List HistoryEntry) (e : HistoryEntry) :
    appendHistory h e = (if h.length < 64 then h else h.drop 1) ++ [e] := by
  unfold appendHistory
  split <;> rfl

/-- A record retires in the event that follows when this event made it SHADOW after its retirement instant (R114). -/
theorem State.retiresNext_iff (before s : State) (i : Slot) :
    State.retiresNext before s i = true ↔
      ∃ r, s.record i = some r ∧ r.state = .shadow ∧ (r.nominalEnd.add s.store.settings.guard).diff s.time.clock ≤ 0
        ∧ ∀ q, before.record i = some q → q.state ≠ .shadow := by
  have waiting : before.isShadow i = false ↔ ∀ q, before.record i = some q → q.state ≠ .shadow := by
    unfold State.isShadow
    cases before.record i <;> simp
  simp only [State.retiresNext, Bool.and_eq_true, Bool.not_eq_true', waiting, State.retirementDue_iff]
  exact ⟨fun ⟨⟨r, there, shadow, reached⟩, new⟩ => ⟨r, there, shadow, reached, new⟩,
    fun ⟨r, there, shadow, reached, new⟩ => ⟨⟨r, there, shadow, reached⟩, new⟩⟩

/-- Settles O43, by the state after a retirement and the list of those that follow. -/
theorem retirementMovesARecordToTheHistory : Obligations.RetirementMovesARecordToTheHistory := by
  unfold Obligations.RetirementMovesARecordToTheHistory
  refine ⟨fun s i r o hr state shadow => ⟨fun reached => ?_, exec_retirement_early hr⟩, fun before s => ?_⟩
  · refine ⟨_, exec_retirement_due hr state shadow reached, ?_, fun j other => ?_, appendHistory_eq _ _, ?_⟩
    · rw [State.record_retire, if_pos rfl]
    · rw [State.record_retire, if_neg other]
    · exact ⟨rfl, rfl, rfl, rfl, rfl, rfl, rfl, rfl, rfl, rfl, rfl⟩
  · refine ⟨_, rfl, ?_, fun c => ?_⟩
    · exact ((List.nodup_finRange _).filter _).map fun i j same => Instr.retirement.inj same
    · simp only [List.mem_map, List.mem_filter, mem_allSlots, true_and, State.retiresNext_iff]
      constructor
      · rintro ⟨i, ⟨r, there⟩, rfl⟩
        exact ⟨i, r, rfl, there⟩
      · rintro ⟨i, r, rfl, there⟩
        exact ⟨i, ⟨r, there⟩, rfl⟩

end Sys2Proof.Machine
end

section
/-! SUPPORT. The receive deframer byte by byte, the ways a frame attempt ends, the arbiter's choice, and a frame received whole
(R61 to R70, R75, R78, R79, R178). -/

namespace Sys2Proof.Machine

/-! ### A byte, by the deframer's state (R61 to R63) -/

theorem State.receiveByte_hunt {s : State} {l : Link} (hunting : (s.link l).deframer = .hunt) (b : Byte) :
    s.receiveByte l b = if b = 0xA3 then s.deframe l (.length none) else s := by
  simp only [State.receiveByte, hunting]

theorem State.receiveByte_firstLength {s : State} {l : Link} (at_first : (s.link l).deframer = .length none) (b : Byte) :
    s.receiveByte l b = s.deframe l (.length (some b)) := by
  simp only [State.receiveByte, at_first]

theorem State.receiveByte_secondLength {s : State} {l : Link} {f : Byte} (at_second : (s.link l).deframer = .length (some f))
    (b : Byte) : s.receiveByte l b = s.endLength l f b := by
  simp only [State.receiveByte, at_second]

theorem State.receiveByte_body {s : State} {l : Link} {len : Nat} {got : List Byte}
    (inside : (s.link l).deframer = .body len got) (b : Byte) :
    s.receiveByte l b =
      s.deframe l (if got.length + 1 < len then .body len (got ++ [b]) else .check (got ++ [b]) none) := by
  simp only [State.receiveByte, inside, List.length_append, List.length_singleton]
  split <;> rfl

theorem State.receiveByte_firstCheck {s : State} {l : Link} {got : List Byte}
    (at_first : (s.link l).deframer = .check got none) (b : Byte) :
    s.receiveByte l b = s.deframe l (.check got (some b)) := by
  simp only [State.receiveByte, at_first]

theorem State.receiveByte_secondCheck {s : State} {l : Link} {got : List Byte} {f : Byte}
    (at_second : (s.link l).deframer = .check got (some f)) (b : Byte) : s.receiveByte l b = s.endFrame l got f b := by
  simp only [State.receiveByte, at_second]

@[simp] theorem State.deframer_deframe (s : State) (l : Link) (d : Deframer) : ((s.deframe l d).link l).deframer = d := by
  simp [State.deframe]

/-- The state of the deframer before a move within an attempt is lost with it. -/
@[simp] theorem State.deframe_deframe (s : State) (l : Link) (d e : Deframer) : (s.deframe l d).deframe l e = s.deframe l e := by
  simp [State.deframe, State.freshGap]

/-- The second length byte (R62). -/
theorem State.endLength_eq (s : State) (l : Link) (f b : Byte) :
    s.endLength l f b =
      if f.toNat * 256 + b.toNat = 0 then s.endAttempt l .empty
      else if 288 < f.toNat * 256 + b.toNat then s.endAttempt l .oversize
      else s.deframe l (.body (f.toNat * 256 + b.toNat) []) := rfl

/-! ### The ends of an attempt other than its check (R64, R65) -/

theorem exec_badChar_hunt {s : State} {l : Link} (hunting : (s.link l).deframer = .hunt) : exec (.badChar l) s = .next s := by
  simp only [exec, execBadChar, hunting]

theorem exec_badChar_attempt {s : State} {l : Link} (attempt : (s.link l).deframer ≠ .hunt) :
    exec (.badChar l) s = .next (s.endAttempt l .badChar) := by
  rw [exec, execBadChar]
  split
  · next hunting => exact absurd hunting attempt
  · rfl

theorem exec_gap_run {s : State} {l : Link} {g : GapTimer} (runs : (s.link l).gapTimer = some g) :
    exec (.gap l) s = .next (if g.limit < g.elapsed then s.endAttempt l .gap else s) := by
  simp [exec, execGap, State.gapDue, runs]

theorem exec_gap_stopped {s : State} {l : Link} (stopped : (s.link l).gapTimer = none) : exec (.gap l) s = .next s := by
  simp [exec, execGap, State.gapDue, stopped]

/-- Settles O30: each state of the deframer by its own rule, and the two ends that are no byte. -/
theorem deframerTakesEachByte : Obligations.DeframerTakesEachByte := by
  unfold Obligations.DeframerTakesEachByte
  refine ⟨fun l s b => ⟨fun hunting => ⟨?_, ?_, fun other => ?_⟩, fun at_first => ?_, fun f at_second => ?_,
    fun len got inside => ?_, fun got at_check => ?_⟩, fun l s => ⟨exec_badChar_attempt, exec_badChar_hunt,
    fun g runs past => ?_, fun g runs within => ?_, exec_gap_stopped⟩⟩
  · exact congrArg Host.Outcome.next ((State.receiveByte_hunt hunting _).trans (if_pos rfl))
  · exact congrArg Host.Outcome.next ((State.receiveByte_hunt hunting _).trans (if_pos rfl))
  · exact congrArg Host.Outcome.next ((State.receiveByte_hunt hunting _).trans (if_neg other))
  · exact congrArg Host.Outcome.next (State.receiveByte_firstLength at_first b)
  · exact congrArg Host.Outcome.next (State.receiveByte_secondLength at_second b)
  · exact congrArg Host.Outcome.next (State.receiveByte_body inside b)
  · exact congrArg Host.Outcome.next (State.receiveByte_firstCheck at_check b)
  · rw [exec_gap_run runs, if_pos past]
    rfl
  · rw [exec_gap_run runs, if_neg (by omega)]

/-! ### The arbiter's choice (R66, R68, R69) -/

/-- The oldest frame of a link leaves its buffer for the engine. -/
def State.served (s : State) (l : Link) (rest : List (List Byte)) (run : Nat) (owner : Link) : State :=
  { s.setLink l { s.link l with buffers := rest } with
    arbiter := { occupied := true, runCount := run, runLink := owner } }

theorem State.arbiterChooses_occupied {s : State} (occupied : s.arbiter.occupied = true) : s.arbiterChooses = s :=
  if_pos occupied

/-- The waiting links as the arbiter reads them. -/
def State.arbitrated (s : State) : Option (Link × Nat × Link) :=
  arbitrate s.store.settings s.arbiter (decide (s.linkA.buffers ≠ [])) (decide (s.linkB.buffers ≠ []))

theorem State.arbiterChooses_none {s : State} (free : s.arbiter.occupied = false) (chosen : s.arbitrated = none) :
    s.arbiterChooses = s := by
  rw [State.arbitrated] at chosen
  simp only [State.arbiterChooses, free, Bool.false_eq_true, if_false, chosen]

theorem State.arbiterChooses_some {s : State} (free : s.arbiter.occupied = false) {l owner : Link} {run : Nat}
    (chosen : s.arbitrated = some (l, run, owner)) {body : List Byte} {rest : List (List Byte)}
    (waits : (s.link l).buffers = body :: rest) : s.arbiterChooses = (s.served l rest run owner).takeFrame l body := by
  rw [State.arbitrated] at chosen
  simp only [State.arbiterChooses, free, Bool.false_eq_true, if_false, chosen, waits, State.served]

theorem State.arbitrated_of_empty {s : State} (a : s.linkA.buffers = []) (b : s.linkB.buffers = []) : s.arbitrated = none := by
  simp [State.arbitrated, arbitrate, a, b]

theorem State.arbitrated_of_one {s : State} {l : Link} (waits : (s.link l).buffers ≠ [])
    (alone : (s.link (otherLink l)).buffers = []) : s.arbitrated = some (l, 0, s.arbiter.runLink) := by
  cases l <;> simp_all [State.arbitrated, arbitrate, State.link, otherLink]

theorem State.arbitrated_of_both {s : State} {l : Link} (waits : (s.link l).buffers ≠ [])
    (other : (s.link (otherLink l)).buffers ≠ []) :
    s.arbitrated =
      let run := if s.arbiter.runLink = s.store.settings.preferredLink then s.arbiter.runCount else 0
      if run < s.store.settings.rotation then
        some (s.store.settings.preferredLink, run + 1, s.store.settings.preferredLink)
      else some (otherLink s.store.settings.preferredLink, 0, s.arbiter.runLink) := by
  cases l <;> simp_all [State.arbitrated, arbitrate, State.link, otherLink]

/-! ### The second check byte (R63, R66 to R70) -/

/-- Two bytes as the word they spell. -/
theorem word_of_bytes (f b : Byte) : BitVec.ofNat 16 (f.toNat * 256 + b.toNat) = f ++ b := by
  have low := b.isLt
  refine BitVec.eq_of_toNat_eq ?_
  rw [BitVec.toNat_ofNat, BitVec.toNat_append, ← Nat.shiftLeft_add_eq_or_of_lt low, Nat.shiftLeft_eq]
  omega

/-- A link with these frames held after a GOOD one (R66, R67). -/
def CarriageLink.withGood (c : CarriageLink) (frames : List (List Byte)) : CarriageLink :=
  { c with deframer := .hunt, gapTimer := none, buffers := frames, up := true, silence := 0 }

/-- A link that sends nothing begins its head reply while it is UP (R70). -/
theorem CarriageLink.beginReply_idle {c : CarriageLink} (idle : c.sending = none) :
    c.beginReply = { c with sending := if c.up = true ∧ c.replies ≠ [] then some c.lineRate else none } := by
  simp only [CarriageLink.beginReply, idle, and_true]
  split
  · rfl
  · rw [← idle]

/-- What a link holds in its frame buffers is nothing to its transmitter. -/
theorem CarriageLink.buffers_beginReply (c : CarriageLink) (frames : List (List Byte)) :
    { c.beginReply with buffers := frames } = ({ c with buffers := frames } : CarriageLink).beginReply := by
  simp only [CarriageLink.beginReply]
  split <;> rfl

theorem CarriageLink.beginReply_buffers (c : CarriageLink) : c.beginReply.buffers = c.buffers := by
  simp only [CarriageLink.beginReply]
  split <;> rfl

/-- The state in which the arbiter finds a GOOD frame (R63, R66, R67, R70). -/
def State.goodHeld (s : State) (l : Link) (frames : List (List Byte)) : State :=
  (s.setLink l ((s.link l).withGood frames).beginReply).bump (.link l (.attempt .good))

theorem State.goodFrame_eq (s : State) (l : Link) (body : List Byte) :
    s.goodFrame l body = (s.goodHeld l ((s.link l).buffers ++ [body])).arbiterChooses := by
  simp only [State.goodFrame, State.endAttempt, State.goodHeld, CarriageLink.withGood, State.bump_link,
    State.link_setLink_same, State.setLink_bump, State.setLink_setLink]

section
variable {s : State} {l : Link} {got : List Byte} {f b : Byte}

theorem State.endFrame_disagrees (differs : ¬ crc16 got = f ++ b) : s.endFrame l got f b = s.endAttempt l .badCheck := by
  rw [State.endFrame, word_of_bytes, if_pos differs]

theorem State.endFrame_full (agrees : crc16 got = f ++ b) (full : 2 ≤ (s.link l).buffers.length) :
    s.endFrame l got f b = s.endAttempt l .overrun := by
  rw [State.endFrame, word_of_bytes, if_neg (not_not.mpr agrees), if_pos full]

theorem State.endFrame_good (agrees : crc16 got = f ++ b) (room : (s.link l).buffers.length < 2) :
    s.endFrame l got f b = (s.goodHeld l ((s.link l).buffers ++ [got])).arbiterChooses := by
  rw [State.endFrame, word_of_bytes, if_neg (not_not.mpr agrees), if_neg (Nat.not_le.mpr room), State.goodFrame_eq]

end

/-- With nothing else waiting, the frame that has just been held is the one the free engine takes (R68, R69). -/
theorem State.arbiterChooses_goodHeld {s : State} (free : s.arbiter.occupied = false) {l : Link}
    (alone : (s.link (otherLink l)).buffers = []) (body : List Byte) :
    (s.goodHeld l [body]).arbiterChooses =
      { s.goodHeld l [] with arbiter := { s.arbiter with occupied := true, runCount := 0 } }.takeFrame l body := by
  have waits : ((s.goodHeld l [body]).link l).buffers = [body] := by
    simp [State.goodHeld, CarriageLink.beginReply_buffers, CarriageLink.withGood]
  have others : ((s.goodHeld l [body]).link (otherLink l)).buffers = [] := by
    rw [State.goodHeld, State.bump_link, State.link_setLink_other _ _ _ _ (by cases l <;> decide), alone]
  rw [State.arbiterChooses_some (by simpa [State.goodHeld] using free)
    (State.arbitrated_of_one (by rw [waits]; exact List.cons_ne_nil _ _) others) waits]
  congr 1
  simp only [State.served, State.goodHeld, State.bump_link, State.link_setLink_same, State.setLink_bump,
    State.setLink_setLink, CarriageLink.buffers_beginReply, CarriageLink.withGood, State.bump_arbiter, State.setLink_arbiter]

theorem exec_frameEnd {s : State} {l : Link} {got : List Byte} {f : Byte} (at_second : (s.link l).deframer = .check got (some f))
    (b : Byte) : exec (.frameEnd l b) s = .next (s.endFrame l got f b) :=
  congrArg Host.Outcome.next (State.receiveByte_secondCheck at_second b)

/-- Settles O31: the check, then the buffers, then the arbiter decide what becomes of the frame. -/
theorem frameEndGivesItsDisposition : Obligations.FrameEndGivesItsDisposition := by
  unfold Obligations.FrameEndGivesItsDisposition
  refine ⟨fun l s got f b at_second => ⟨fun differs => ?_, fun agrees full => ?_, fun agrees room occupied => ?_,
    fun agrees emptyA emptyB free => ?_⟩, fun c => rfl⟩
  · rw [exec_frameEnd at_second, State.endFrame_disagrees differs]
    rfl
  · rw [exec_frameEnd at_second, State.endFrame_full agrees full]
    rfl
  · rw [exec_frameEnd at_second, State.endFrame_good agrees room,
      State.arbiterChooses_occupied (by simpa [State.goodHeld] using occupied)]
    rfl
  · have empty : ∀ k, (s.link k).buffers = [] := by
      rintro (_ | _)
      · exact emptyA
      · exact emptyB
    rw [exec_frameEnd at_second, State.endFrame_good agrees (by rw [empty]; decide), empty, List.nil_append,
      State.arbiterChooses_goodHeld free (empty _)]
    rfl

/-! ### A frame received whole (R61 to R63, R177, R178) -/

theorem receiveRun_cons (l : Link) (b : Byte) (bs : List Byte) (s : State) :
    receiveRun l (b :: bs) s = receiveRun l bs (s.receiveByte l b) := rfl

/-- The bytes of a body are taken whatever their values (R63). -/
theorem receiveRun_body {l : Link} {len : Nat} (bs rest : List Byte) {got : List Byte} {s : State} (some_left : bs ≠ [])
    (fits : got.length + bs.length = len) (inside : (s.link l).deframer = .body len got) :
    receiveRun l (bs ++ rest) s = receiveRun l rest (s.deframe l (.check (got ++ bs) none)) := by
  induction bs generalizing got s with
  | nil => exact absurd rfl some_left
  | cons b bs ih =>
    rw [List.length_cons] at fits
    rw [List.cons_append, receiveRun_cons, State.receiveByte_body inside]
    cases bs with
    | nil => rw [if_neg (by simp at fits; omega), List.nil_append]
    | cons c cs =>
      have more : got.length + 1 < len := by simp at fits; omega
      rw [if_pos more, ih (List.cons_ne_nil _ _) (by simp at fits ⊢; omega) (State.deframer_deframe _ _ _),
        State.deframe_deframe, List.append_assoc, List.singleton_append]

/-- A word is its two bytes. -/
theorem bytes_of_word (w : Word16) : w.extractLsb' 8 8 ++ w.extractLsb' 0 8 = w :=
  BitVec.extractLsb'_append_extractLsb'_eq_extractLsb' rfl |>.trans (by simp)

theorem frameOf_eq (body : List Byte) : frameOf body =
    [0xA3, BitVec.ofNat 8 (body.length / 256), BitVec.ofNat 8 body.length] ++ body
      ++ [(crc16 body).extractLsb' 8 8, (crc16 body).extractLsb' 0 8] := by
  rw [frameOf, bytesOf_two, bytesOf_word]

/-- The length bytes of a frame bring the deframer to its body (R62). -/
theorem State.endLength_of_length {s : State} {l : Link} {n : Nat} (some_bytes : 1 ≤ n) (fits : n ≤ 288) :
    s.endLength l (BitVec.ofNat 8 (n / 256)) (BitVec.ofNat 8 n) = s.deframe l (.body n []) := by
  have spelled : (BitVec.ofNat 8 (n / 256)).toNat * 256 + (BitVec.ofNat 8 n).toNat = n := by
    rw [BitVec.toNat_ofNat, BitVec.toNat_ofNat]
    omega
  rw [State.endLength_eq, spelled, if_neg (by omega), if_neg (by omega)]

/-- A frame brings a hunting deframer to its second check byte with the body taken (R61 to R63). -/
theorem receiveRun_frameOf {l : Link} {body : List Byte} {s : State} (some_bytes : 1 ≤ body.length)
    (fits : body.length ≤ 288) (hunting : (s.link l).deframer = .hunt) :
    receiveRun l (frameOf body) s =
      some ((s.deframe l (.check body (some ((crc16 body).extractLsb' 8 8)))).endFrame l body
        ((crc16 body).extractLsb' 8 8) ((crc16 body).extractLsb' 0 8)) := by
  rw [frameOf_eq, List.append_assoc, List.cons_append, receiveRun_cons, State.receiveByte_hunt hunting, if_pos rfl,
    List.cons_append, receiveRun_cons, State.receiveByte_firstLength (State.deframer_deframe _ _ _), List.cons_append,
    receiveRun_cons, State.receiveByte_secondLength (State.deframer_deframe _ _ _),
    State.endLength_of_length some_bytes fits, List.nil_append,
    receiveRun_body body _ (List.ne_nil_of_length_pos some_bytes) (by simp) (State.deframer_deframe _ _ _),
    receiveRun_cons, State.receiveByte_firstCheck (State.deframer_deframe _ _ _), receiveRun_cons,
    State.receiveByte_secondCheck (State.deframer_deframe _ _ _)]
  simp only [State.deframe_deframe, List.nil_append]
  rfl

/-- What the attempt in progress was is nothing to the frames held (R66). -/
theorem State.goodHeld_deframe (s : State) (l : Link) (d : Deframer) (frames : List (List Byte)) :
    (s.deframe l d).goodHeld l frames = s.goodHeld l frames := by
  simp [State.goodHeld, State.deframe, CarriageLink.withGood]

/-- One byte into the CRC register is a fold over its bits, most significant first (R178). -/
theorem crcByte_eq_foldl (r : Word16) (b : Byte) :
    crcByte r b = [7, 6, 5, 4, 3, 2, 1, 0].foldl (fun (reg : Word16) (k : Nat) =>
      if reg.getLsbD 15 = b.getLsbD k then reg <<< 1 else (reg <<< 1) ^^^ 0x1021) r := by
  have bit : ∀ (reg : Word16) (c : Bool),
      crcBit reg c = if reg.getLsbD 15 = c then reg <<< 1 else (reg <<< 1) ^^^ 0x1021 := by
    intro reg c
    rw [crcBit, BitVec.msb_eq_getLsbD_last]
    cases reg.getLsbD 15 <;> cases c <;> rfl
  simp only [crcByte, bit, List.foldl_cons, List.foldl_nil]

/-- Settles O14: the deframer comes to the check with the body as sent, and the check agrees. -/
theorem aFrameSentWholeIsGood : Obligations.AFrameSentWholeIsGood := by
  unfold Obligations.AFrameSentWholeIsGood
  refine ⟨fun l body s some_bytes fits hunting room occupied => ?_, frameOf_eq, rfl, fun bytes b => ?_⟩
  · have same : ((s.deframe l (.check body (some ((crc16 body).extractLsb' 8 8)))).link l).buffers = (s.link l).buffers := by
      simp [State.deframe]
    rw [receiveRun_frameOf some_bytes fits hunting,
      State.endFrame_good (bytes_of_word _).symm (by rw [same]; exact room), same, State.goodHeld_deframe,
      State.arbiterChooses_occupied (by simpa [State.goodHeld] using occupied)]
    rfl
  · rw [crc16, List.foldl_append]
    exact crcByte_eq_foldl _ _

end Sys2Proof.Machine
end

section
/-! SUPPORT. The silence of a link, the frame the admission engine takes next and how it is dispatched, and the end of a reply
(R66 to R74, R78, R79, R171, R173, R174). -/

namespace Sys2Proof.Machine

/-! ### Silence (R67) -/

/-- Settles O32: the timer against the silence time as the setting stands. -/
theorem silenceTakesALinkDown : Obligations.SilenceTakesALinkDown := by
  unfold Obligations.SilenceTakesALinkDown
  intro l s
  have checked : exec (.silenceTimeout l) s = .next (s.silencedBy s.store.settings.silence l) :=
    congrArg Host.Outcome.next (s.silenceCheck_eq l)
  refine ⟨fun up run => ?_, fun quiet => ?_⟩
  · rw [checked, State.silencedBy, if_pos ⟨up, run⟩]
  · rw [checked, State.silencedBy, if_neg]
    rintro ⟨up, run⟩
    obtain down | early := quiet
    · exact Bool.false_ne_true (down.symm.trans up)
    · omega

/-! ### ADMISSION_FREE (R68, R69) -/

/-- The engine has become free, before the arbiter chooses (R68). -/
def State.admissionFreed (s : State) : State := { s with arbiter := { s.arbiter with occupied := false } }

theorem exec_admissionFree (s : State) : exec .admissionFree s = .next s.admissionFreed.arbiterChooses := rfl

@[simp] theorem State.link_admissionFreed (s : State) (l : Link) : s.admissionFreed.link l = s.link l := by
  cases l <;> rfl

/-- The engine takes the frame that the arbiter chooses. -/
theorem exec_admissionFree_some {s : State} {l owner : Link} {run : Nat} (chosen : s.arbitrated = some (l, run, owner))
    {body : List Byte} {rest : List (List Byte)} (waits : (s.link l).buffers = body :: rest) :
    exec .admissionFree s = .next ((s.served l rest run owner).takeFrame l body) := by
  have freed : s.admissionFreed.served l rest run owner = s.served l rest run owner := by cases l <;> rfl
  rw [exec_admissionFree, State.arbiterChooses_some rfl (show s.admissionFreed.arbitrated = _ from chosen)
    (by rw [State.link_admissionFreed]; exact waits), freed]

theorem exec_admissionFree_none {s : State} (chosen : s.arbitrated = none) :
    exec .admissionFree s = .next s.admissionFreed :=
  congrArg Host.Outcome.next (State.arbiterChooses_none rfl chosen)

/-! ### The taking of a frame (R78, R79) -/

/-- A destination address in a frame that holds its two bytes. -/
theorem destOf_body {body : List Byte} (long : 5 ≤ body.length) :
    BitVec.ofNat 16 (natAt body 1 2) = body.getD 1 0 ++ body.getD 2 0 := by
  obtain _ | ⟨a, _ | ⟨f, _ | ⟨b, rest⟩⟩⟩ := body
  · simp at long
  · simp at long
  · simp at long
  · rw [← word_of_bytes]
    simp [natAt, fieldAt, unsignedOf]

section
variable {s : State} {l : Link} {body : List Byte}

theorem State.takeFrame_part (kind : body.getD 0 0 = 0x61) : s.takeFrame l body = s.takePart l body := if_pos kind

theorem State.takeFrame_unknown (not_part : body.getD 0 0 ≠ 0x61) (not_manage : body.getD 0 0 ≠ 0x6C) :
    s.takeFrame l body = s.bump (.admission .unknownKind) := (if_neg not_part).trans (if_neg not_manage)

theorem State.takeFrame_manage (kind : body.getD 0 0 = 0x6C) : s.takeFrame l body = s.takeManage l body :=
  (if_neg (by rw [kind]; decide)).trans (if_pos kind)

theorem State.takeFrame_short (kind : body.getD 0 0 = 0x6C) (short : body.length < 5) :
    s.takeFrame l body = s.bump (.admission .unknownKind) :=
  (State.takeFrame_manage kind).trans (if_pos short)

/-- A MANAGE frame that matches the site is handed to the management engine as its request (R79, R154). -/
theorem State.takeFrame_handed (kind : body.getD 0 0 = 0x6C) (long : 5 ≤ body.length) {a : Addressing}
    (matched : s.store.settings.matchAddress (body.getD 1 0 ++ body.getD 2 0) = some a) :
    s.takeFrame l body = s.takeRequest (body.getD 4 0)
      { link := l, addressing := a, dest := body.getD 1 0 ++ body.getD 2 0, tag := body.getD 3 0 } (body.drop 5) := by
  rw [State.takeFrame_manage kind, State.takeManage, if_neg (Nat.not_lt.mpr long)]
  simp only [destOf_body long, matched]

theorem State.takeFrame_foreign (kind : body.getD 0 0 = 0x6C) (long : 5 ≤ body.length)
    (unmatched : s.store.settings.matchAddress (body.getD 1 0 ++ body.getD 2 0) = none) :
    s.takeFrame l body = s.bump (.admission .foreign) := by
  rw [State.takeFrame_manage kind, State.takeManage, if_neg (Nat.not_lt.mpr long)]
  simp only [destOf_body long, unmatched]
  rfl

end

theorem Settings.contains_groups (t : Settings) (dest : Word16) :
    t.groups.toList.contains dest = true ↔ ∃ i, t.groups.get i = dest := by
  rw [List.contains_iff_mem, Vector.mem_toList_iff, Vector.mem_iff_getElem]
  exact ⟨fun ⟨i, inside, held⟩ => ⟨⟨i, inside⟩, held⟩, fun ⟨i, held⟩ => ⟨i.val, i.isLt, held⟩⟩

/-- Settles O33: the choice of the arbiter in its four cases, and the dispatch of the frame taken. -/
theorem arbiterServesByRotation : Obligations.ArbiterServesByRotation := by
  unfold Obligations.ArbiterServesByRotation
  refine ⟨fun s body rest => ⟨fun emptyA emptyB => ?_, fun l waits alone => ?_, fun waits others below => ?_,
    fun waits others reached => ?_⟩, fun t => ⟨fun l named => ?_, fun c unlisted => ?_⟩, ⟨rfl, rfl⟩, fun s l body => ?_⟩
  · exact exec_admissionFree_none (State.arbitrated_of_empty emptyA emptyB)
  · exact exec_admissionFree_some (State.arbitrated_of_one (by rw [waits]; exact List.cons_ne_nil _ _) alone) waits
  · refine exec_admissionFree_some ?_ waits
    rw [State.arbitrated_of_both (by rw [waits]; exact List.cons_ne_nil _ _) others]
    exact if_pos below
  · refine exec_admissionFree_some ?_ waits
    rw [State.arbitrated_of_both others (by rw [waits]; exact List.cons_ne_nil _ _)]
    exact if_neg (Nat.not_lt.mpr reached)
  · simp only [Settings.preferredLink, named]
  · simp only [Settings.preferredLink, unlisted]
  · intro kind dest site inGroup handed
    have grouped := s.store.settings.contains_groups dest
    refine ⟨State.takeFrame_part, State.takeFrame_unknown, State.takeFrame_short, fun manage long =>
      ⟨fun real own => ?_, fun real other member => ?_, fun all other outside => ?_, fun foreign => ?_⟩⟩
    · exact State.takeFrame_handed manage long ((if_neg real).trans (if_pos own))
    · exact State.takeFrame_handed manage long
        ((if_neg real).trans ((if_neg other).trans (if_pos (grouped.mpr member))))
    · have real : dest ≠ 0 := fun zero => absurd (all.symm.trans zero) (by decide)
      exact State.takeFrame_handed manage long ((if_neg real).trans
        ((if_neg other).trans ((if_neg (mt grouped.mp outside)).trans (if_pos all))))
    · refine State.takeFrame_foreign manage long ?_
      obtain zero | ⟨other, outside, narrow⟩ := foreign
      · exact if_pos zero
      · refine ite_eq_left_iff.mpr fun _ => ?_
        exact (if_neg other).trans ((if_neg (mt grouped.mp outside)).trans (if_neg narrow))

/-! ### The end of a reply (R70, R72 to R74) -/

/-- The engine after a place of a link's queue has freed: a multi-frame READ that answers on it waits afresh (R72; log 19). -/
def State.engineAfterPlace (s : State) (l : Link) : Engine :=
  match s.engine with
  | .reading op => if op.handed.link = l then .reading { op with stall := 0 } else s.engine
  | _ => s.engine

/-- The link once its head frame is gone, before the rate change that may wait for it (R70). -/
def CarriageLink.replyLeft (c : CarriageLink) : CarriageLink := { c with replies := c.replies.drop 1, sending := none }

/-- The rate change that waits for the replies of a link, after one of them is gone (R73). -/
def State.rateTurn (s : State) (l : Link) : State :=
  match (s.link l).rateChange with
  | none => s
  | some rc =>
    if rc.after ≤ 1 then s.applyRate l rc.code
    else s.setLink l { s.link l with rateChange := some { rc with after := rc.after - 1 } }

/-- A multi-frame READ that answers on a link sees that a place of its queue has freed (R72; log 19). -/
def State.sawPlace (s : State) (l : Link) : State :=
  match s.engine with
  | .reading op => if op.handed.link = l then { s with engine := .reading { op with stall := 0 } } else s
  | _ => s

/-- It is the engine alone that sees it. -/
theorem State.sawPlace_eq (s : State) (l : Link) : s.sawPlace l = { s with engine := s.engineAfterPlace l } := by
  have same : ∀ e, s.engine = e → s = { s with engine := e } := by
    rintro _ rfl
    rfl
  unfold State.sawPlace State.engineAfterPlace
  cases waiting : s.engine with
  | free => exact same _ waiting
  | storing op => exact same _ waiting
  | reading op =>
    dsimp only
    split
    · rfl
    · exact same _ waiting

/-- The order within the event: the frame leaves and is counted, the rate change is made, the next frame begins, and a READ
sees the place (R70, R72 to R74). -/
theorem State.replyGone_eq (s : State) (l : Link) :
    s.replyGone l =
      let t := ((s.setLink l (s.link l).replyLeft).bump (.link l .repliesSent)).rateTurn l
      (t.setLink l (t.link l).beginReply).sawPlace l := by
  cases l <;> rfl

/-- The rate change made first, the next frame of the link begins, at the rate the line then has (R70, R73). -/
theorem State.replyGone_of_turn {s t : State} {l : Link}
    (turned : ((s.setLink l (s.link l).replyLeft).bump (.link l .repliesSent)).rateTurn l = t)
    (same : t.engine = s.engine) {q : CarriageLink} (link : t.link l = q) (idle : q.sending = none) :
    s.replyGone l = { t.setLink l { q with
      sending := if q.up = true ∧ q.replies ≠ [] then some q.lineRate else none } with engine := s.engineAfterPlace l } := by
  rw [State.replyGone_eq, turned, State.sawPlace_eq, link, CarriageLink.beginReply_idle idle]
  simp only [State.engineAfterPlace, State.setLink_engine, same]

theorem State.rateTurn_none {s : State} {l : Link} (steady : (s.link l).rateChange = none) : s.rateTurn l = s := by
  simp only [State.rateTurn, steady]

theorem State.rateTurn_later {s : State} {l : Link} {rc : RateChange} (waits : (s.link l).rateChange = some rc)
    (later : 1 < rc.after) :
    s.rateTurn l = s.setLink l { s.link l with rateChange := some { rc with after := rc.after - 1 } } := by
  simp only [State.rateTurn, waits, if_neg (Nat.not_le.mpr later)]

theorem State.rateTurn_due {s : State} {l : Link} {rc : RateChange} (waits : (s.link l).rateChange = some rc)
    (due : rc.after ≤ 1) : s.rateTurn l = s.applyRate l rc.code := by
  simp only [State.rateTurn, waits, if_pos due]

theorem exec_replySent {s : State} {l : Link} (sends : (s.link l).sending.isSome = true) :
    exec (.replySent l) s = .next (s.replyGone l) := by
  simp only [exec, execReplySent, sends, if_true]

/-- Settles O34: the rate change that waits for the reply gives the cases. -/
theorem sentReplyLeavesTheQueue : Obligations.SentReplyLeavesTheQueue := by
  unfold Obligations.SentReplyLeavesTheQueue
  intro l s c rest next engine gone
  have left : ((s.setLink l c.replyLeft).bump (.link l .repliesSent)).link l = c.replyLeft := by simp
  have waiting : s.engineAfterPlace l = engine := rfl
  refine ⟨fun idle => ?_, fun sends steady => ?_, fun rc sends waits => ⟨fun later => ?_, fun due hunting => ?_,
    fun due attempt => ?_⟩⟩
  · simp only [exec, execReplySent, show (s.link l).sending = none from idle]
    rfl
  · rw [exec_replySent sends, State.replyGone_of_turn (State.rateTurn_none (by rw [left]; exact steady)) (by simp) left rfl,
      waiting, State.setLink_bump, State.setLink_setLink]
    rfl
  · rw [exec_replySent sends, State.replyGone_of_turn (State.rateTurn_later (by rw [left]; exact waits) later) (by simp)
      (State.link_setLink_same _ _ _) (by rw [left]; rfl), waiting, left, State.setLink_setLink, State.setLink_bump,
      State.setLink_setLink]
    rfl
  · have hunts : c.replyLeft.deframer = .hunt := hunting
    have turned := State.rateTurn_due (by rw [left]; exact waits) due
    rw [State.applyRate_eq, left, if_pos hunts] at turned
    rw [exec_replySent sends, State.replyGone_of_turn turned (by simp) (State.link_setLink_same _ _ _) rfl, waiting,
      State.setLink_setLink, State.setLink_bump, State.setLink_setLink]
    rfl
  · have attempts : c.replyLeft.deframer ≠ .hunt := attempt
    have turned := State.rateTurn_due (by rw [left]; exact waits) due
    rw [State.applyRate_eq, left, if_neg attempts] at turned
    rw [exec_replySent sends, State.replyGone_of_turn turned (by simp)
      ((State.bump_link _ _ _).trans (State.link_setLink_same _ _ _)) rfl, waiting]
    simp only [State.setLink_bump, State.setLink_setLink]
    rfl

end Sys2Proof.Machine
end

section
/-! SUPPORT. The place of a reply and the body of it, the requests outside the ordinary course, and SET_LINK_RATE (R70, R71, R73,
R74, R154 to R157, R166, R167, R177). -/

namespace Sys2Proof.Machine

/-! ### Replies (R70, R71, R157, R177) -/

theorem CarriageLink.beginReply_behind (c : CarriageLink) (frames : List (List Byte)) (frame : List Byte) :
    ({ c with replies := frames ++ [frame] } : CarriageLink).beginReply =
      { c with
        replies := frames ++ [frame]
        sending := if c.up = true ∧ c.sending = none then some c.lineRate else c.sending } := by
  have held : frames ++ [frame] ≠ [] := by simp
  simp only [CarriageLink.beginReply, ne_eq, held, not_false_eq_true, true_and]
  split <;> rfl

theorem State.placeReply_room {s : State} {l : Link} (room : (s.link l).replies.length < 4) (body : List Byte) :
    s.placeReply l body = s.setLink l { s.link l with
      replies := (s.link l).replies ++ [frameOf body]
      sending := if (s.link l).up = true ∧ (s.link l).sending = none then some (s.link l).lineRate
        else (s.link l).sending } :=
  (if_pos room).trans (congrArg _ (CarriageLink.beginReply_behind _ _ _))

theorem State.placeReply_full {s : State} {l : Link} (full : 4 ≤ (s.link l).replies.length) (body : List Byte) :
    s.placeReply l body = s.bump (.link l .replyLost) := if_neg (Nat.not_lt.mpr full)

/-- A reply body in its bytes (R177). -/
theorem replyBody_eq (h : Handed) (echo result : Byte) (frame : Nat) (final : Bool) (data : List Byte) :
    replyBody h echo result frame final data =
      [0x6D, h.dest.extractLsb' 8 8, h.dest.extractLsb' 0 8, h.tag, echo, result, BitVec.ofNat 8 frame,
        if final then 0x01 else 0x00] ++ data := by
  rw [replyBody, bytesOf_word, bytesOf_one]
  rfl

section
variable {h : Handed}

theorem State.answer_unicast (unicast : h.addressing = .unicast) (s : State) (q : Request) (res : Result) (data : List Byte) :
    s.answer h q res data = s.placeReply h.link ([0x6D, h.dest.extractLsb' 8 8, h.dest.extractLsb' 0 8, h.tag, q.code,
      res.code, 0x00, 0x01] ++ data) := by
  obtain ⟨-, placed⟩ | ⟨other, -⟩ := s.answer_cases h q res data
  · rw [placed, replyBody_eq]
    rfl
  · exact absurd unicast other

theorem State.answer_other (other : h.addressing ≠ .unicast) (s : State) (q : Request) (res : Result) (data : List Byte) :
    s.answer h q res data = s := by
  obtain ⟨unicast, -⟩ | ⟨-, silent⟩ := s.answer_cases h q res data
  · exact absurd unicast other
  · exact silent

end

@[simp] theorem State.answer_pending (s : State) (h : Handed) (q : Request) (res : Result) (data : List Byte) :
    (s.answer h q res data).pending = s.pending := by
  obtain ⟨-, placed⟩ | ⟨-, silent⟩ := s.answer_cases h q res data
  · rw [placed, State.placeReply_pending]
  · rw [silent]

/-! ### Requests outside the ordinary course (R154 to R157, R167) -/

@[simp] theorem State.busy_bump (s : State) (c : Counter) : (s.bump c).busy = s.busy := rfl

theorem State.busy_eq_false_iff (s : State) : s.busy = false ↔ s.engine = .free := by
  simp [State.busy]

/-- A code beyond RESTART's, and 0, name no request (R155). -/
theorem requestOf_eq_none {code : Byte} (unlisted : 0x0D < code.toNat ∨ code = 0) : requestOf code = none := by
  refine List.find?_eq_none.mpr fun q _ named => ?_
  obtain rfl : q.code = code := by simpa using named
  revert unlisted
  cases q <;> decide

theorem State.takeRequest_misunderstood {code : Byte} (unlisted : requestOf code = none) (s : State) (h : Handed)
    (params : List Byte) :
    s.takeRequest code h params = (s.bump (.mgmt .requestsTaken)).misunderstood h code := by
  simp only [State.takeRequest, unlisted]

/-- What a request that is not understood is answered with: its code with the high bit set, the result 0 and no data
(R155, R177). -/
theorem State.misunderstood_eq (s : State) (h : Handed) (code : Byte) :
    s.misunderstood h code =
      if h.addressing = .unicast then
        s.placeReply h.link [0x6D, h.dest.extractLsb' 8 8, h.dest.extractLsb' 0 8, h.tag, code ||| 0x80, 0x00, 0x00, 0x01]
      else s := by
  rw [State.misunderstood, replyBody_eq]
  cases h.addressing <;> rfl

theorem State.takeRequest_busy {s : State} (busy : s.engine ≠ .free) {q : Request} (not_status : q ≠ .status)
    (not_abort : q ≠ .abort) (h : Handed) (params : List Byte) :
    s.takeRequest q.code h params = (s.bump (.mgmt .requestsTaken)).turnAway q h := by
  have held : (s.bump (.mgmt .requestsTaken)).busy = true := decide_eq_true busy
  have unserved : q.servedBusy = false := by simp [Request.servedBusy, not_status, not_abort]
  rw [State.takeRequest, requestOf_code]
  exact if_pos ⟨held, unserved⟩

theorem State.turnAway_eq (s : State) (q : Request) (h : Handed) :
    s.turnAway q h =
      if h.addressing = .unicast then (s.bump (.mgmt .busyAnswers)).answer h q .busy []
      else s.bump (.mgmt .busyDiscards) := by
  rw [State.turnAway]
  cases h.addressing <;> rfl

theorem State.takeRequest_badLength {s : State} (free : s.engine = .free) {q : Request} {n : Nat} (fixed : q.paramBytes = some n)
    {params : List Byte} (wrong : params.length ≠ n) (h : Handed) :
    s.takeRequest q.code h params = (s.bump (.mgmt .requestsTaken)).answer h q .range [] := by
  have idle : ¬ ((s.bump (.mgmt .requestsTaken)).busy = true ∧ q.servedBusy = false) := by
    rw [State.busy_bump, (State.busy_eq_false_iff s).mpr free]
    simp
  have refused : q.lengthOk params = false := by simp [Request.lengthOk, fixed, wrong]
  rw [State.takeRequest, requestOf_code]
  dsimp only
  rw [if_neg idle, refused]
  rfl

/-- The answer of a RESTART leaves the queue, at whose front the warm restart then stands (R167; log 42). -/
theorem State.doRestart_eq (s : State) (h : Handed) :
    s.doRestart h = { s.answer h .restart .done [] with restartCalled := true, pending := .warmRestart :: s.pending } := by
  rw [State.doRestart, State.follow, State.answer_pending]
  rfl

/-- Settles O50: where a request goes before it is carried out, and the two that are all reply. -/
theorem requestsOutsideTheOrdinaryCourse : Obligations.RequestsOutsideTheOrdinaryCourse := by
  unfold Obligations.RequestsOutsideTheOrdinaryCourse
  refine ⟨fun s h q res data => ⟨fun unicast room => ?_, fun unicast full => ?_, fun other => ?_⟩,
    fun s h => ⟨fun free => ?_, fun code params unlisted => ?_, fun q params not_status not_abort busy => ?_,
      fun q n params fixed wrong free => ?_⟩,
    fun s h ps => ⟨rfl, rfl, rfl, rfl, rfl, rfl, rfl, rfl, rfl, rfl, rfl, rfl, rfl, fun code => rfl⟩,
    fun q => by cases q <;> rfl, rfl⟩
  · rw [State.answer_unicast unicast, State.placeReply_room room]
  · rw [State.answer_unicast unicast, State.placeReply_full full]
  · exact State.answer_other other _ _ _ _
  · exact congrArg Host.Outcome.next ((State.takeRequest_free (q := .restart) free rfl h).trans (State.doRestart_eq _ h))
  · exact congrArg Host.Outcome.next ((State.takeRequest_misunderstood (requestOf_eq_none unlisted) s h params).trans
      (State.misunderstood_eq _ h code))
  · rw [State.takeRequest_busy busy not_status not_abort, State.turnAway_eq]
  · exact State.takeRequest_badLength free fixed wrong h

/-! ### SET_LINK_RATE (R73, R74, R166) -/

theorem linkOf_linkCode (l : Link) : linkOf (linkCode l) = some l := by cases l <;> rfl

theorem linkOf_eq_none {b : Byte} (beyond : 1 < b.toNat) : linkOf b = none := by
  have not_zero : b ≠ 0x00 := by rintro rfl; simp at beyond
  have not_one : b ≠ 0x01 := by rintro rfl; simp at beyond
  rw [linkOf, if_neg not_zero, if_neg not_one]

/-- A settings record with the rate code it holds put in again is itself. -/
theorem Settings.setRate_same {t : Settings} {l : Link} {code : Nat} (same : t.rate l = code) : t.setRate l code = t := by
  subst same
  cases l <;> rfl

@[simp] theorem Settings.rate_setRate (t : Settings) (l : Link) (code : Nat) : (t.setRate l code).rate l = code := by
  cases l <;> rfl

/-- A reply leaves the deframers of both links (R60, R70). -/
@[simp] theorem State.deframer_answer (s : State) (h : Handed) (q : Request) (res : Result) (data : List Byte) (l : Link) :
    ((s.answer h q res data).link l).deframer = (s.link l).deframer := by
  obtain ⟨-, placed⟩ | ⟨-, silent⟩ := s.answer_cases h q res data
  · obtain ⟨-, queued⟩ | ⟨-, lost⟩ := s.placeReply_cases h.link (replyBody h q.code res.code 0 true data)
    · rw [placed, queued]
      by_cases own : l = h.link
      · rw [own, State.link_setLink_same, CarriageLink.beginReply]
        split <;> rfl
      · rw [State.link_setLink_other _ _ _ _ own]
    · rw [placed, lost, State.bump_link]
  · rw [silent]

theorem exec_setLinkRate {s : State} (free : s.engine = .free) (h : Handed) (b code : Byte) :
    exec (.setLinkRate h [b, code]) s = .next ((s.bump (.mgmt .requestsTaken)).doSetLinkRate h [b, code]) :=
  congrArg Host.Outcome.next (State.takeRequest_free free rfl h)

/-- The settings record with a link's rate code, the reply of the request placed (R166). -/
def State.rateAnswered (s : State) (h : Handed) (l : Link) (code : Nat) : State :=
  { s with store := { s.store with settings := s.store.settings.setRate l code } }.answer h .setLinkRate .done []

section
variable (s : State) (h : Handed)

theorem State.doSetLinkRate_noLink {b : Byte} (unlisted : linkOf b = none) (code : Byte) :
    s.doSetLinkRate h [b, code] = s.answer h .setLinkRate .range [] := by
  simp only [State.doSetLinkRate, List.getD_cons_zero, unlisted]

theorem State.doSetLinkRate_noRate {code : Byte} (unlisted : code = 0 ∨ 7 < code.toNat) (l : Link) :
    s.doSetLinkRate h [linkCode l, code] = s.answer h .setLinkRate .range [] := by
  have outside : ¬ (1 ≤ code.toNat ∧ code.toNat ≤ 7) := by
    obtain rfl | beyond := unlisted
    · decide
    · omega
  simp only [State.doSetLinkRate, List.getD_cons_zero, List.getD_cons_succ, linkOf_linkCode, if_neg outside]

/-- A rate code that is listed changes the record, and the line where R73 says. -/
theorem State.doSetLinkRate_listed {code : Byte} (listed : 1 ≤ code.toNat ∧ code.toNat ≤ 7) (l : Link) :
    s.doSetLinkRate h [linkCode l, code] =
      (s.rateAnswered h l code.toNat).rateMoved h (s.store.settings.rate l) code.toNat l := by
  simp only [State.doSetLinkRate, List.getD_cons_zero, List.getD_cons_succ, linkOf_linkCode, if_pos listed]
  rw [State.rateFollows_eq (fun unicast => State.answer_replied unicast _ _ _ _), Settings.rate_setRate]
  rfl

/-- The code that the record holds changes nothing (R166). -/
theorem State.doSetLinkRate_same {code : Byte} (listed : 1 ≤ code.toNat ∧ code.toNat ≤ 7) {l : Link}
    (same : s.store.settings.rate l = code.toNat) :
    s.doSetLinkRate h [linkCode l, code] = s.answer h .setLinkRate .done [] := by
  rw [State.doSetLinkRate_listed s h listed l, State.rateMoved, if_pos same.symm, State.rateAnswered,
    Settings.setRate_same same]

end

/-- Settles O60: one rate change of the record, and of the line as every change of the record brings it. -/
theorem linkRateFollowsTheReply : Obligations.LinkRateFollowsTheReply := by
  unfold Obligations.LinkRateFollowsTheReply
  intro s h l code free s1 s2 go
  have carried : go = .next (s1.doSetLinkRate h [linkCode l, code]) := exec_setLinkRate free h _ _
  have hunts : (s2.link l).deframer = (s.link l).deframer := by
    refine (State.deframer_answer _ _ _ _ _ l).trans ?_
    cases l <;> rfl
  have moved : 1 ≤ code.toNat → code.toNat ≤ 7 → go = .next (s2.rateMoved h (s.store.settings.rate l) code.toNat l) :=
    fun low high => carried.trans (congrArg Host.Outcome.next (s1.doSetLinkRate_listed h ⟨low, high⟩ l))
  refine ⟨⟨rfl, rfl⟩, fun t => ⟨rfl, rfl, fun n => ⟨rfl, rfl⟩⟩, fun unlisted => ?_, fun b beyond => ?_,
    fun low high same => ?_, fun low high other => ⟨fun unicast own => ?_, fun elsewhere hunting => ?_,
      fun elsewhere attempt => ?_⟩⟩
  · rw [carried, State.doSetLinkRate_noRate _ _ unlisted]
  · rw [exec_setLinkRate free, State.doSetLinkRate_noLink _ _ (linkOf_eq_none beyond)]
  · rw [carried, State.doSetLinkRate_same s1 h ⟨low, high⟩ same]
  · rw [moved low high, State.rateMoved, if_neg (Ne.symm other), if_pos ⟨unicast, own⟩]
  · rw [moved low high, State.rateMoved, if_neg (Ne.symm other), if_neg (not_and_or.mpr elsewhere),
      if_pos (hunts.trans hunting)]
  · rw [moved low high, State.rateMoved, if_neg (Ne.symm other), if_neg (not_and_or.mpr elsewhere),
      if_neg (by rw [hunts]; exact attempt)]

end Sys2Proof.Machine
end

section
/-! SUPPORT. READ: the range it asks for, the frames it is answered in, one or several, and the rows of the tables (R72, R123,
R159, R160, R168, R169, R177, R180). -/

namespace Sys2Proof.Machine

/-! ### A frame of rows (R160, R180) -/

theorem readData_eq (table : Byte) (first : Nat) (rows : List (List Byte)) :
    readData table first rows = [table, BitVec.ofNat 8 first, BitVec.ofNat 8 rows.length] ++ rows.flatten := by
  rw [readData, bytesOf_one, bytesOf_one]
  rfl

/-- The next frame of a multi-frame READ, in the rows it carries (R160). -/
theorem State.placeReadFrame_eq {op : ReadOp} {t : TableId} (named : tableOf op.table = some t) (s : State) :
    s.placeReadFrame op =
      let rows := ((s.rows t).drop op.next).take (min t.frameRows (op.stop - op.next))
      let next := op.next + rows.length
      let final := op.stop ≤ next ∨ (s.rows t).length ≤ next
      { s.placeReply op.handed.link ([0x6D, op.handed.dest.extractLsb' 8 8, op.handed.dest.extractLsb' 0 8, op.handed.tag,
            0x02, 0x00, BitVec.ofNat 8 op.frame, if final then 0x01 else 0x00]
          ++ ([op.table, BitVec.ofNat 8 op.next, BitVec.ofNat 8 rows.length] ++ rows.flatten)) with
        engine := if final then .free else .reading { op with next := next, frame := op.frame + 1, stall := 0 } } := by
  simp only [State.placeReadFrame, State.readFrame, named, replyBody_eq, readData_eq, Bool.or_eq_true, decide_eq_true_eq]
  rfl

theorem State.hasPlace_iff (s : State) (l : Link) : s.hasPlace l = true ↔ (s.link l).replies.length < 4 := decide_eq_true_iff

theorem exec_readFramePlaced {s : State} {op : ReadOp} (reading : s.engine = .reading op) :
    exec .readFramePlaced s = .next (if s.hasPlace op.handed.link then s.placeReadFrame op else s) := by
  simp only [exec, execReadFramePlaced, reading]

theorem exec_readStall (s : State) :
    exec .readStall s = .next (if s.readStallDue then { s with engine := .free }.bump (.mgmt .stallEnds) else s) := rfl

/-- Settles O53: the place, then the rows as the table stands, then the final flag; and the stall where there is no place. -/
theorem multiFrameReadGoesOnOrStalls : Obligations.MultiFrameReadGoesOnOrStalls := by
  unfold Obligations.MultiFrameReadGoesOnOrStalls
  refine ⟨fun s op t reading named _ => ?_, fun s l body => ⟨fun room => State.placeReply_room room body,
    fun full => State.placeReply_full full body⟩⟩
  intro rows next final body
  refine ⟨fun room => ?_, fun full => ?_, fun full waited => ?_, fun waits => ?_⟩
  · rw [exec_readFramePlaced reading, if_pos ((s.hasPlace_iff _).mpr room), State.placeReadFrame_eq named]
    rfl
  · rw [exec_readFramePlaced reading, if_neg (mt (s.hasPlace_iff _).mp (Nat.not_lt.mpr full))]
  · rw [exec_readStall, if_pos (s.readStallDue_iff.mpr ⟨op, reading, full, waited⟩)]
  · rw [exec_readStall, if_neg]
    rw [State.readStallDue_iff]
    rintro ⟨other, same, full, waited⟩
    obtain rfl : op = other := Engine.reading.inj (reading.symm.trans same)
    omega

/-! ### The range of a READ (R159) -/

/-- The range lies inside a table of so many rows: its first row is there, and, where the number of rows does not move, all
of it is. -/
def TableId.Inside (t : TableId) (held first count : Nat) : Prop :=
  first < held ∧ (t.moving = false → first + count ≤ held)

/-- The row before which a range ends: count 0 asks for the rest of the table, and a table whose number of rows moves cuts
the range short. -/
def TableId.rangeEnd (t : TableId) (held first count : Nat) : Nat :=
  if count = 0 then held else if t.moving then min held (first + count) else first + count

section
variable {t : TableId} {held first count : Nat}

theorem readRange_inside (inside : t.Inside held first count) :
    readRange t held first count = some (first, t.rangeEnd held first count) := by
  obtain ⟨there, whole⟩ := inside
  unfold readRange TableId.rangeEnd
  cases moving : t.moving with
  | true => simp [there]
  | false => simp [there, whole moving]

theorem readRange_empty (moving : t.moving = true) : readRange t 0 0 count = some (0, 0) := by
  simp [readRange, moving]

theorem readRange_outside (outside : ¬ t.Inside held first count) (rows : ¬ (t.moving = true ∧ first = 0 ∧ held = 0)) :
    readRange t held first count = none := by
  unfold TableId.Inside at outside
  unfold readRange
  cases moving : t.moving with
  | true =>
    simp only [moving, true_and, Bool.true_eq_false, false_implies, and_true] at outside rows
    simp only [if_true, if_neg outside, if_neg rows]
  | false =>
    simp only [moving, true_implies] at outside
    simp only [Bool.false_eq_true, if_false, if_neg outside]

theorem rangeEnd_le_held (inside : t.Inside held first count) : t.rangeEnd held first count ≤ held := by
  obtain ⟨there, whole⟩ := inside
  unfold TableId.rangeEnd
  split_ifs with all moving
  · exact le_rfl
  · exact min_le_left _ _
  · exact whole (by simpa using moving)

end

/-! ### READ (R159, R160) -/

theorem exec_read {s : State} (free : s.engine = .free) (h : Handed) (id first count : Byte) :
    exec (.read h [id, first, count]) s = .next ((s.bump (.mgmt .requestsTaken)).doRead h [id, first, count]) :=
  congrArg Host.Outcome.next (State.takeRequest_free free rfl h)

section
variable (s : State) (h : Handed) {id : Byte} {t : TableId}

theorem State.doRead_unnamed (unnamed : tableOf id = none) (first count : Byte) :
    s.doRead h [id, first, count] = s.answer h .read .noSuch [] := by
  simp only [State.doRead, List.getD_cons_zero, unnamed]

section
variable (named : tableOf id = some t) {first count : Byte}
include named

theorem State.doRead_noRange (unranged : readRange t (s.rows t).length first.toNat count.toNat = none) :
    s.doRead h [id, first, count] = s.answer h .read .noSuch [] := by
  simp only [State.doRead, List.getD_cons_zero, List.getD_cons_succ, named, unranged]

variable {start stop : Nat} (ranged : readRange t (s.rows t).length first.toNat count.toNat = some (start, stop))
include ranged

theorem State.doRead_frame (fits : stop - start ≤ t.frameRows) :
    s.doRead h [id, first, count] =
      s.answer h .read .done (readData id start (((s.rows t).drop start).take (stop - start))) := by
  simp only [State.doRead, List.getD_cons_zero, List.getD_cons_succ, named, ranged, if_pos fits]

/-- A range longer than one frame is read for a unicast request alone (R160). -/
theorem State.doRead_longer (longer : t.frameRows < stop - start) :
    s.doRead h [id, first, count] =
      if h.addressing = .unicast then
        s.beginRead { handed := h, table := id, next := start, stop := stop, frame := 0, stall := 0 }
      else s := by
  simp only [State.doRead, List.getD_cons_zero, List.getD_cons_succ, named, ranged, if_neg (Nat.not_le.mpr longer)]
  cases h.addressing <;> rfl

end

end

/-- The first frame of a multi-frame READ is full, and more rows of its range are left (R160). -/
theorem State.placeReadFrame_begun {s : State} {op : ReadOp} {t : TableId} (named : tableOf op.table = some t)
    (longer : t.frameRows < op.stop - op.next) (within : op.stop ≤ (s.rows t).length) :
    s.placeReadFrame op =
      { s.placeReply op.handed.link ([0x6D, op.handed.dest.extractLsb' 8 8, op.handed.dest.extractLsb' 0 8, op.handed.tag,
            0x02, 0x00, BitVec.ofNat 8 op.frame, 0x00]
          ++ ([op.table, BitVec.ofNat 8 op.next, BitVec.ofNat 8 t.frameRows]
            ++ (((s.rows t).drop op.next).take t.frameRows).flatten)) with
        engine := .reading { op with next := op.next + t.frameRows, frame := op.frame + 1, stall := 0 } } := by
  have carried : min t.frameRows (op.stop - op.next) = t.frameRows := min_eq_left (by omega)
  have full : (((s.rows t).drop op.next).take t.frameRows).length = t.frameRows := by
    rw [List.length_take, List.length_drop]
    omega
  have more : ¬ (op.stop ≤ op.next + t.frameRows ∨ (s.rows t).length ≤ op.next + t.frameRows) := by omega
  rw [State.placeReadFrame_eq named]
  simp only [carried, full, if_neg more]

/-! ### The tables (R159, R177) -/

/-- The identifiers of R177 are all that name a table. -/
theorem tableOf_eq_none {id : Byte} (unlisted : id ∉ ([0x00, 0x10, 0x11, 0x12, 0x13, 0x20, 0x21, 0x22, 0x23, 0x30, 0x31, 0x32,
    0x33, 0x40, 0x41, 0x42] : List Byte)) : tableOf id = none := by
  simp only [List.mem_cons, List.not_mem_nil, or_false, not_or, BitVec.toNat_eq, BitVec.reduceToNat] at unlisted
  unfold tableOf
  dsimp only
  rw [if_neg (by omega), if_neg (by omega), if_neg (by omega), if_neg (by omega), if_neg (by omega), if_neg (by omega),
    if_neg (by omega)]

theorem tableOf_profile (p : Fin 4) :
    tableOf (BitVec.ofNat 8 (0x10 + p.val)) = some (.site p) ∧ tableOf (BitVec.ofNat 8 (0x20 + p.val)) = some (.modes p)
      ∧ tableOf (BitVec.ofNat 8 (0x30 + p.val)) = some (.zones p) := by
  revert p
  decide

/-! ### The rows (R123, R168, R169, R180) -/

theorem vector_toList_eq_map {α : Type} {n : Nat} (v : Vector α n) : v.toList = (List.finRange n).map v.get :=
  List.ext_getElem (by simp) fun i _ _ => by simp [Vector.get]

theorem State.records_eq (s : State) : s.records = (List.finRange 32).filterMap s.record := by
  rw [State.records, vector_toList_eq_map, List.filterMap_map]
  rfl

/-- A history entry in its bytes (R180). -/
theorem entryBytes_eq (e : HistoryEntry) : entryBytes e =
    bytesOf 2 e.number.toNat
      ++ [BitVec.ofNat 8 e.zone.val, BitVec.ofNat 8 e.mode.val, BitVec.ofNat 8 e.cls.val, outcomeByte (some e.outcome),
        BitVec.ofNat 8 ((if e.sourceA then 1 else 0) + (if e.sourceB then 2 else 0)), 0x00]
      ++ bytesOf 4 e.launch.sec.toNat ++ bytesOf 4 e.launch.tick.val ++ bytesOf 2 e.j ++ bytesOf 2 e.sent := by
  simp only [entryBytes, bytesOf_one, instantBytes, sourceByte, flagByte_two, List.append_assoc]
  rfl

/-- A BATCHES row in its bytes (R180). -/
theorem batchBytes_eq (r : Record) : batchBytes r =
    bytesOf 2 r.number.toNat
      ++ [r.state.code, outcomeByte r.shadow, BitVec.ofNat 8 r.cls.val, BitVec.ofNat 8 r.profileUsed.val]
      ++ bytesOf 2 (min r.j r.total) ++ bytesOf 2 r.k
      ++ bytesOf 4 r.keptKeyUp.sec.toNat ++ bytesOf 4 r.keptKeyUp.tick.val ++ bytesOf 2 r.parts.toNat
      ++ [BitVec.ofNat 8 ((if r.sourceA then 1 else 0) + (if r.sourceB then 2 else 0)),
        BitVec.ofNat 8 ((if r.late then 1 else 0) + (if r.joined then 2 else 0))]
      ++ bytesOf 2 r.sent := by
  simp only [batchBytes, bytesOf_one, instantBytes, sourceByte, flagByte_two, List.append_assoc]
  rfl

theorem length_entryBytes (e : HistoryEntry) : (entryBytes e).length = 20 := by simp [entryBytes_eq]

theorem length_batchBytes (r : Record) : (batchBytes r).length = 24 := by simp [batchBytes_eq]

/-- The COUNTERS rows read the counters one by one, named in the order of their rows. -/
theorem State.rows_counters (s : State) {cs : List Counter} (inOrder : cs.map Counter.row = List.finRange 50) :
    s.rows .counters = cs.map (fun c => bytesOf 4 (s.counter c).toNat) := by
  rw [State.rows, vector_toList_eq_map, ← inOrder, List.map_map, List.map_map]
  rfl

/-- Settles O52: READ by its range and the size of a frame; each table by its own row. -/
theorem readAnswersInOneFrameOrSeveral : Obligations.ReadAnswersInOneFrameOrSeveral := by
  unfold Obligations.ReadAnswersInOneFrameOrSeveral
  refine ⟨fun s h id first count free => ?_, ⟨rfl, rfl, rfl, rfl, tableOf_profile, fun id => tableOf_eq_none⟩,
    fun t => ?_, fun s p => ⟨rfl, rfl, ?_, ?_⟩, fun s => ?_⟩
  · intro s1 go
    have carried : go = .next (s1.doRead h [id, first, count]) := exec_read free h id first count
    refine ⟨fun unnamed => by rw [carried, State.doRead_unnamed s1 h unnamed], fun t named => ?_⟩
    intro held last rows begun inside
    have zero : ∀ b : Byte, b = 0 ↔ b.toNat = 0 := fun b => by simp [BitVec.toNat_eq]
    have ends : t.rangeEnd held first.toNat count.toNat = last := by
      simp only [TableId.rangeEnd, last, zero]
    have ranged : inside → readRange t (s1.rows t).length first.toNat count.toNat = some (first.toNat, last) := fun there =>
      ends ▸ readRange_inside there
    have within : inside → last ≤ held := fun there => ends ▸ rangeEnd_le_held there
    refine ⟨fun outside rowless => ?_, fun moving start empty => ?_, fun there fits => ?_,
      fun there longer unicast room => ?_, fun there longer unicast full => ?_, fun there longer other => ?_⟩
    · rw [carried, State.doRead_noRange s1 h named (readRange_outside outside (by rw [← zero]; exact rowless))]
    · have none_held : readRange t (s1.rows t).length first.toNat count.toNat = some (0, 0) := by
        rw [(zero first).mp start, show (s1.rows t).length = 0 from empty, readRange_empty moving]
      rw [carried, State.doRead_frame s1 h named none_held (Nat.zero_le _), readData_eq]
      rfl
    · rw [carried, State.doRead_frame s1 h named (ranged there) fits, readData_eq, BitVec.ofNat_toNat, BitVec.setWidth_eq]
    · have place : s1.hasPlace h.link = true := (s1.hasPlace_iff _).mpr (by rw [State.bump_link]; exact room)
      have cut : min t.frameRows (last - first.toNat) = t.frameRows := min_eq_left (Nat.le_of_lt longer)
      rw [carried, State.doRead_longer s1 h named (ranged there) longer, if_pos unicast, State.beginRead, if_pos place,
        State.placeReadFrame_begun named longer (within there), BitVec.ofNat_toNat, BitVec.setWidth_eq,
        List.take_take, cut]
      rfl
    · have placeless : ¬ s1.hasPlace h.link = true := by
        rw [State.hasPlace_iff, State.bump_link]
        omega
      rw [carried, State.doRead_longer s1 h named (ranged there) longer, if_pos unicast, State.beginRead, if_neg placeless]
    · rw [carried, State.doRead_longer s1 h named (ranged there) longer, if_neg other]
  · cases t <;> simp [TableId.frameRows, TableId.rowSize, TableId.moving]
  · rw [State.rows, vector_toList_eq_map, List.map_map]
    rfl
  · rw [State.rows, vector_toList_eq_map, List.map_map]
    rfl
  · intro source code outcomes ofLink counters
    have coded : ∀ o : BatchOutcome, outcomeByte (some o) = code o := fun o => by cases o <;> rfl
    have shown : ∀ o : Option BatchOutcome, outcomeByte o = (o.map code).getD 0xFF := fun o => by
      cases o with
      | none => rfl
      | some o => exact coded o
    refine ⟨List.map_congr_left fun e _ => ?_, List.map_congr_left fun q _ => ?_, s.records_eq, s.rows_counters rfl, rfl,
      List.forall_mem_map.mpr fun e _ => length_entryBytes e, List.forall_mem_map.mpr fun q _ => length_batchBytes q⟩
    · rw [entryBytes_eq, coded]
    · rw [batchBytes_eq, shown]
      cases q.state <;> rfl

end Sys2Proof.Machine
end

section
/-! SUPPORT. The launch history is left alone by every operation but a retirement and a restart: one lemma for each operation, as
`Laws/State.lean` has them for the named updates (R117, R168). -/

namespace Sys2Proof.Machine

/-- A choice between two moves that leave the history leaves it. -/
theorem history_ite {s t u : State} {p : Prop} [Decidable p] (ht : t.history = s.history) (hu : u.history = s.history) :
    (if p then t else u).history = s.history := by
  split
  · exact ht
  · exact hu

theorem history_foldl {α : Type} {f : State → α → State} (hf : ∀ s a, (f s a).history = s.history) (xs : List α)
    (s : State) : (xs.foldl f s).history = s.history := by
  induction xs generalizing s with
  | nil => rfl
  | cons x xs ih => exact (ih (f s x)).trans (hf s x)

/-! ### Keying and the batch table -/

@[simp] theorem State.zeroTail_history (s : State) : s.zeroTail.history = s.history := history_ite rfl rfl

@[simp] theorem State.dropRecord_history (s : State) (i : Slot) (o : BatchOutcome) :
    (s.dropRecord i o).history = s.history := by
  unfold State.dropRecord
  split
  · rfl
  · dsimp only
    split <;> simp

@[simp] theorem State.becomeKeying_history (s : State) (i : Slot) (r : Record) :
    (s.becomeKeying i r).history = s.history := by
  unfold State.becomeKeying
  dsimp only
  split <;> rfl

@[simp] theorem State.refuseKeyUp_history (s : State) (i : Slot) (o : BatchOutcome) :
    (s.refuseKeyUp i o).history = s.history := by
  unfold State.refuseKeyUp
  dsimp only
  split <;> simp

@[simp] theorem State.decideKeyUp_history (s : State) (i : Slot) : (s.decideKeyUp i).history = s.history := by
  unfold State.decideKeyUp
  split
  · rfl
  · refine history_ite (by simp) (history_ite (by simp) ?_)
    dsimp only
    split
    · simp
    · exact history_ite (by simp) (by simp)

@[simp] theorem State.decideThenNext_history (s : State) (i : Slot) : (s.decideThenNext i).history = s.history :=
  history_ite (by simp [State.considerNext]) (by simp)

@[simp] theorem State.decideIfDue_history (s : State) : s.decideIfDue.history = s.history := by
  unfold State.decideIfDue
  split
  · rfl
  · exact history_ite (by simp) rfl

@[simp] theorem State.afterTailEntry_history (before s : State) : (State.afterTailEntry before s).history = s.history :=
  history_ite (by rw [State.zeroTail_history]; exact history_ite (by simp) rfl) rfl

@[simp] theorem State.settleKeying_history (before s : State) : (State.settleKeying before s).history = s.history :=
  (State.afterTailEntry_history before _).trans (history_ite (by simp) rfl)

@[simp] theorem State.retireNext_history (before s : State) : (State.retireNext before s).history = s.history := rfl

@[simp] theorem State.readOnAir_history (s : State) (i : Slot) (r : Record) (b : Nat) :
    (s.readOnAir i r b).history = s.history := by
  unfold State.readOnAir
  split <;> rfl

@[simp] theorem State.readBeforeLaunch_history (s : State) (i : Slot) (r : Record) (b : Nat) :
    (s.readBeforeLaunch i r b).history = s.history := by
  unfold State.readBeforeLaunch
  split <;> simp

@[simp] theorem State.stopRecord_history (s : State) (i : Slot) (r : Record) (o : BatchOutcome) :
    (s.stopRecord i r o).history = s.history := by simp [State.stopRecord]

@[simp] theorem State.nextSymbol_history (s : State) (i : Slot) (r : Record) :
    (s.nextSymbol i r).history = s.history := rfl

@[simp] theorem State.joinRule_history (s : State) (i : Slot) (r : Record) : (s.joinRule i r).history = s.history :=
  history_ite (by simp) rfl

@[simp] theorem State.completeRecord_history (s : State) (i : Slot) : (s.completeRecord i).history = s.history := by
  unfold State.completeRecord
  split
  · rfl
  · exact history_ite (history_ite (by simp) rfl) rfl

@[simp] theorem State.deadlineActs_history (s : State) (i : Slot) : (s.deadlineActs i).history = s.history := by
  unfold State.deadlineActs
  split
  · rfl
  · exact history_ite (by simp) rfl

@[simp] theorem State.takeSwitch_history (s : State) : s.takeSwitch.history = s.history := by
  unfold State.takeSwitch
  split <;> rfl

/-! ### The conflict resolver -/

@[simp] theorem State.trim_history (s : State) (guard : Nat) (i iw : Slot) (w l : Record) :
    (s.trim guard i iw w l).history = s.history := by
  have waiting : (s.trimWaiting guard i w l).history = s.history := history_ite rfl (history_ite (by simp) rfl)
  have onAir : (s.trimOnAir guard i iw w l).history = s.history :=
    history_ite (history_ite (by simp) rfl) (history_ite rfl (history_ite rfl (by simp)))
  unfold State.trim
  split
  · rfl
  · exact onAir
  all_goals exact waiting

@[simp] theorem State.firstPass_history (guard : Nat) (new : Slot) (s : State) (e : Slot) :
    (State.firstPass guard new s e).history = s.history := by
  refine history_ite rfl ?_
  split
  · exact history_ite (by simp) rfl
  · rfl

@[simp] theorem State.secondPass_history (guard : Nat) (new : Slot) (s : State) (e : Slot) :
    (State.secondPass guard new s e).history = s.history := by
  refine history_ite rfl ?_
  split
  · exact history_ite (by simp) rfl
  · rfl

@[simp] theorem State.resolve_history (s : State) (new : Slot) : (s.resolve new).history = s.history :=
  (history_foldl (State.secondPass_history _ new) allSlots _).trans (history_foldl (State.firstPass_history _ new) allSlots s)

/-! ### Links and requests -/

@[simp] theorem State.answer_history (s : State) (h : Handed) (q : Request) (res : Result) (data : List Byte) :
    (s.answer h q res data).history = s.history := by
  unfold State.answer
  split <;> simp

@[simp] theorem State.applyRate_history (s : State) (l : Link) (code : Nat) : (s.applyRate l code).history = s.history :=
  history_ite (by simp) (by simp)

@[simp] theorem State.silenceCheck_history (s : State) (l : Link) : (s.silenceCheck l).history = s.history :=
  history_ite (by simp) rfl

@[simp] theorem State.rateFollows_history (h : Handed) (old new : Settings) (s : State) (l : Link) :
    (State.rateFollows h old new s l).history = s.history := history_ite rfl (history_ite (by simp) (by simp))

theorem State.installSettings_history (s : State) (h : Handed) (new : Settings) {reply : State → State}
    (replied : ∀ u, (reply u).history = u.history) : (s.installSettings h new reply).history = s.history := by
  simp [State.installSettings, replied]

@[simp] theorem State.writeRows_history (s : State) (h : Handed) (t : TableId) (first : Nat) (rows : List (List Byte)) :
    (s.writeRows h t first rows).history = s.history := by
  cases t with
  | settings =>
    simp only [State.writeRows]
    split
    · simp
    · exact State.installSettings_history s h _ fun u => by simp
  | modes p | zones p =>
    simp only [State.writeRows]
    split <;> simp
  | site p => simp [State.writeRows]
  | history | counters | batches => simp [State.writeRows]

@[simp] theorem State.placeReadFrame_history (s : State) (op : ReadOp) : (s.placeReadFrame op).history = s.history :=
  State.placeReply_history s op.handed.link _

@[simp] theorem State.doRead_history (s : State) (h : Handed) (params : List Byte) :
    (s.doRead h params).history = s.history := by
  unfold State.doRead
  dsimp only
  split
  · simp
  · split
    · simp
    · refine history_ite (by simp) ?_
      split
      · exact history_ite (by simp) rfl
      all_goals rfl

@[simp] theorem State.doRecall_history (s : State) (h : Handed) : (s.doRecall h).history = s.history := by
  refine history_ite (by simp) ?_
  split
  · simp
  · exact State.installSettings_history _ h _ fun u => by simp

@[simp] theorem State.abortRecord_history (s : State) (i : Slot) : (s.abortRecord i).history = s.history := by
  unfold State.abortRecord
  split
  · rfl
  · split
    · rfl
    · exact history_ite rfl rfl
    all_goals simp

@[simp] theorem State.doAbort_history (s : State) (h : Handed) (params : List Byte) :
    (s.doAbort h params).history = s.history := by
  refine history_ite ?_ (history_ite ?_ (by simp))
  · split <;> simp
  · simpa using history_foldl State.abortRecord_history allSlots s

@[simp] theorem State.doSetLinkRate_history (s : State) (h : Handed) (params : List Byte) :
    (s.doSetLinkRate h params).history = s.history := by
  unfold State.doSetLinkRate
  dsimp only
  split
  · simp
  · exact history_ite (by simp) (by simp)

@[simp] theorem State.carryOut_history (s : State) (q : Request) (h : Handed) (params : List Byte) :
    (s.carryOut q h params).history = s.history := by
  match q with
  | .status => exact State.answer_history ..
  | .read => exact s.doRead_history h params
  | .write =>
    simp only [State.carryOut, State.doWrite]
    split <;> simp
  | .digest =>
    simp only [State.carryOut, State.doDigest]
    split <;> simp
  | .switch =>
    simp only [State.carryOut, State.doSwitch]
    split
    · exact history_ite (by simp) (history_ite (by simp) (by simp))
    · simp
  | .cancelSwitch => exact history_ite (by simp) (history_ite (by simp) (by simp))
  | .store => rfl
  | .recall => exact s.doRecall_history h
  | .abort => exact s.doAbort_history h params
  | .ackAlarms => exact State.answer_history ..
  | .clearCounters => exact State.answer_history ..
  | .setLinkRate => exact s.doSetLinkRate_history h params
  | .restart => exact State.answer_history ..

@[simp] theorem State.takeRequest_history (s : State) (code : Byte) (h : Handed) (params : List Byte) :
    (s.takeRequest code h params).history = s.history := by
  unfold State.takeRequest
  dsimp only
  split
  · unfold State.misunderstood
    split <;> simp
  · refine history_ite ?_ (history_ite (by simp) (by simp))
    unfold State.turnAway
    split <;> simp

@[simp] theorem State.storeEnded_history (s : State) (op : StoreOp) (verified : Bool) :
    (s.storeEnded op verified).history = s.history := history_ite (by simp) (by simp)

@[simp] theorem State.rateTurn_history (s : State) (l : Link) : (s.rateTurn l).history = s.history := by
  unfold State.rateTurn
  split
  · rfl
  · exact history_ite (by simp) (by simp)

@[simp] theorem State.replyGone_history (s : State) (l : Link) : (s.replyGone l).history = s.history := by
  simp [State.replyGone_eq, State.sawPlace_eq]

/-! ### Admission -/

@[simp] theorem State.takeToShadow_history (s : State) (i : Slot) (r : Record) (p : RawPart) (l : Link) :
    (s.takeToShadow i r p l).history = s.history := rfl

@[simp] theorem State.storePart_history (s : State) (i : Slot) (r : Record) (p : RawPart) (l : Link) :
    (s.storePart i r p l).history = s.history := by
  unfold State.storePart
  split
  · rfl
  · simp

@[simp] theorem State.placeFirstPart_history (s : State) (i : Slot) (p : RawPart) (l : Link) :
    (s.placeFirstPart i p l).history = s.history := by
  unfold State.placeFirstPart
  split
  · rfl
  · exact history_ite rfl (by simp)

@[simp] theorem State.knownBatch_history (s : State) (i : Slot) (r : Record) (p : RawPart) (l : Link) :
    (s.knownBatch i r p l).history = s.history := by
  refine history_ite rfl (history_ite rfl ?_)
  split
  · rfl
  · simp
  all_goals rfl

/-! ### The site time unit -/

@[simp] theorem State.enterLocked_history (s : State) : s.enterLocked.history = s.history := by simp [State.enterLocked]

@[simp] theorem State.holdoverFromLocked_history (s : State) : s.holdoverFromLocked.history = s.history := by
  simp [State.holdoverFromLocked]

@[simp] theorem State.referenceLost_history (s : State) : s.referenceLost.history = s.history := by
  unfold State.referenceLost
  split <;> simp

@[simp] theorem State.todByte_history (s : State) (b : Byte) (e : Bool) : (s.todByte b e).history = s.history := by
  have judged : ∀ bytes faulty, (s.todComplete bytes faulty).history = s.history := fun bytes faulty =>
    history_ite (history_ite rfl (history_ite (history_ite (by simp) rfl) rfl)) rfl
  unfold State.todByte
  split
  · exact history_ite rfl rfl
  · exact history_ite rfl (judged _ _)

theorem stepRecord_history (p q : Instant) (s : State) (i : Slot) : (stepRecord p q s i).history = s.history := by
  have deadline : ∀ s : State, (stepDeadline p q s i).history = s.history := fun s => by
    unfold stepDeadline
    split
    · exact history_ite (by simp) rfl
    · rfl
  have keptEnd : ∀ s : State, (stepKeptEnd p q s i).history = s.history := fun s => by
    unfold stepKeptEnd
    split
    · exact history_ite (by simp) rfl
    · rfl
  have ready : ∀ s : State, (stepReady p q s i).history = s.history := fun s => by
    unfold stepReady
    split
    · exact history_ite (history_ite (by simp) (history_ite (by simp) rfl)) rfl
    · rfl
  rw [stepRecord_eq, ready, keptEnd, deadline]

@[simp] theorem State.edgeTaken_history (s : State) : s.edgeTaken.history = s.history := by
  unfold State.edgeTaken
  cases s.time.tod <;> rfl

/-- The commands that touch the gate, but a cold start and an edge, leave the history. -/
theorem exec_touching_history {c : Instr} {s t : State} (hc : touchesGate c = true) (h : exec c s = .next t) :
    t = s.coldStart ∨ t = s.ppsEdge ∨ t.history = s.history := by
  cases c with
  | coldStart => cases h; exact Or.inl rfl
  | ppsEdge => cases h; exact Or.inr (Or.inl rfl)
  | todMessage second quality check faults =>
    exact Or.inr (Or.inr (todMessage_keeps (P := fun u => u.history = s.history)
      (fun u b e hu => (u.todByte_history b e).trans hu) rfl h))
  | todLeadByte e => cases h; exact Or.inr (Or.inr (s.todByte_history _ e))
  | refLost | ppsMissing => cases h; exact Or.inr (Or.inr (history_ite (by simp) rfl))
  | refBack | secondBoundary => cases h; exact Or.inr (Or.inr (history_ite rfl rfl))
  | txrdyFall => cases h; exact Or.inr (Or.inr (history_ite (history_ite rfl rfl) rfl))
  | _ => cases hc

end Sys2Proof.Machine
end

section
/-! SUPPORT. The batch numbers of the records and of the history, one against another: no number is held twice, and every move keeps
it so. A record keeps its number, a retirement moves it to the history, and a creation brings one that none of them holds (R85,
R93, R117). -/

namespace Sys2Proof.Machine

/-! ### The law, one number against another -/

/-- No number is held twice by the history, by a record and the history, or by two records (R93). -/
structure NumbersApart (s : State) : Prop where
  history : (s.history.map (·.number)).Nodup
  retired : ∀ i r, s.record i = some r → ∀ e ∈ s.history, e.number ≠ r.number
  records : ∀ i j r q, s.record i = some r → s.record j = some q → r.number = q.number → i = j

/-- The records in two slots have different numbers. -/
def State.apartAt (s : State) (i j : Slot) : Prop :=
  ∀ r, s.record i = some r → ∀ q, s.record j = some q → r.number ≠ q.number

theorem nodup_recordNumbers_iff (s : State) :
    (s.records.map (·.number)).Nodup ↔ ∀ i j, i ≠ j → s.apartAt i j := by
  have symmetric : Std.Symm s.apartAt := ⟨fun i j apart q hq r hr => (apart r hr q hq).symm⟩
  rw [s.records_eq, List.Nodup, List.pairwise_map, List.pairwise_filterMap]
  constructor
  · exact fun apart i j other => List.Pairwise.forall (R := s.apartAt) apart (List.mem_finRange i) (List.mem_finRange j) other
  · exact fun apart => (List.nodup_finRange 32).imp fun {i j} other => apart i j other

theorem mem_records_iff (s : State) (r : Record) : r ∈ s.records ↔ ∃ i, s.record i = some r := by
  simp [s.records_eq]

theorem numbersDistinct_iff (s : State) : NumbersDistinct s ↔ NumbersApart s := by
  have disjoint : List.Disjoint (s.records.map (·.number)) (s.history.map (·.number)) ↔
      ∀ i r, s.record i = some r → ∀ e ∈ s.history, e.number ≠ r.number := by
    simp only [List.disjoint_left, mem_records_iff, List.mem_map, not_exists, not_and]
    constructor
    · exact fun apart i r hr => apart ⟨r, ⟨i, hr⟩, rfl⟩
    · rintro apart _ ⟨r, ⟨i, hr⟩, rfl⟩
      exact apart i r hr
  rw [NumbersDistinct, State.heldNumbers, List.nodup_append', nodup_recordNumbers_iff, disjoint]
  constructor
  · rintro ⟨records, history, retired⟩
    exact ⟨history, retired, fun i j r q hr hq same => by_contra fun other => records i j other r hr q hq same⟩
  · rintro ⟨history, retired, records⟩
    exact ⟨fun i j other r hr q hq same => other (records i j r q hr hq same), history, retired⟩

/-! ### A new batch number (R85) -/

theorem State.slotOf_eq_none_iff (s : State) (n : Word16) :
    s.slotOf n = none ↔ ∀ i r, s.record i = some r → r.number ≠ n := by
  simp only [State.slotOf, List.find?_eq_none, mem_allSlots, forall_const]
  refine forall_congr' fun i => ?_
  cases s.record i <;> simp

theorem State.record_of_slotOf {s : State} {n : Word16} {i : Slot} (found : s.slotOf n = some i) :
    ∃ r, s.record i = some r ∧ r.number = n := by
  have holds := List.find?_some found
  cases there : s.record i with
  | none => simp [there] at holds
  | some r => exact ⟨r, rfl, by simpa [there] using holds⟩

@[simp] theorem number_initialState (zone : ZoneMode) (now : Instant) (r : Record) :
    (initialState zone now r).number = r.number := by
  unfold initialState
  split
  · rfl
  · split
    · rfl
    · split
      · split <;> rfl
      · rfl

@[simp] theorem State.number_newRecord (s : State) (p : RawPart) (sel : Fin 4 × Bool) :
    (s.newRecord p sel).number = p.number := rfl

/-! ### The history after a retirement (R168) -/

theorem appendHistory_sublist (h : List HistoryEntry) (x : HistoryEntry) : (appendHistory h x).Sublist (h ++ [x]) := by
  unfold appendHistory
  split
  · exact .refl _
  · exact (List.drop_sublist 1 h).append (.refl _)

theorem mem_appendHistory {h : List HistoryEntry} {x e : HistoryEntry} (there : e ∈ appendHistory h x) : e ∈ h ∨ e = x := by
  simpa using (appendHistory_sublist h x).subset there

namespace NumbersApart

/-! ### The moves that keep it -/

/-- Records that keep their slots and numbers, and a history that stays. -/
theorem of_kept {s t : State} (hs : NumbersApart s) (kept : RecordsKept s t) (history : t.history = s.history) :
    NumbersApart t where
  history := history ▸ hs.history
  retired i r' hr' e he := by
    obtain ⟨r, hr, grows⟩ := kept i r' hr'
    rw [grows.number]
    exact hs.retired i r hr e (history ▸ he)
  records i j r' q' hr' hq' same := by
    obtain ⟨r, hr, grows⟩ := kept i r' hr'
    obtain ⟨q, hq, grows'⟩ := kept j q' hq'
    exact hs.records i j r q hr hq (by rw [← grows.number, ← grows'.number, same])

theorem of_empty {t : State} (table : t.table = Vector.replicate Config.slots none) (history : t.history = []) :
    NumbersApart t where
  history := by simp [history]
  retired i r hr := by simp [State.record_of_empty table i] at hr
  records i j r q hr := by simp [State.record_of_empty table i] at hr

theorem ite {t u : State} {p : Prop} [Decidable p] (ht : NumbersApart t) (hu : NumbersApart u) :
    NumbersApart (if p then t else u) := by
  split
  · exact ht
  · exact hu

/-- A retirement moves a number from a slot to the history (R117). -/
theorem retire {s : State} (hs : NumbersApart s) {i : Slot} {r : Record} (hr : s.record i = some r) (o : BatchOutcome) :
    NumbersApart (s.retire i r o) := by
  have left : ∀ j q, (s.retire i r o).record j = some q → j ≠ i ∧ s.record j = some q := by
    intro j q hq
    have freed : (s.retire i r o).record j = if j = i then none else s.record j := State.record_freeSlot _ i j
    rw [freed] at hq
    split at hq
    · cases hq
    · next other => exact ⟨other, hq⟩
  refine ⟨?_, fun j q hq e he => ?_, fun j k q q' hq hq' same => ?_⟩
  · refine ((appendHistory_sublist s.history (r.entry o)).map (·.number)).nodup ?_
    rw [List.map_append, List.nodup_append']
    refine ⟨hs.history, List.nodup_singleton _, ?_⟩
    simpa [List.disjoint_left, Record.entry] using hs.retired i r hr
  · obtain ⟨other, held⟩ := left j q hq
    obtain old | rfl := mem_appendHistory he
    · exact hs.retired j q held e old
    · exact fun same => other (hs.records j i q r held hr same.symm)
  · obtain ⟨-, held⟩ := left j q hq
    obtain ⟨-, held'⟩ := left k q' hq'
    exact hs.records j k q q' held held' same

/-- A record whose number is held nowhere comes into a slot. -/
theorem create {s : State} (hs : NumbersApart s) {r : Record} (unheld : ∀ j q, s.record j = some q → q.number ≠ r.number)
    (unretired : ∀ e ∈ s.history, e.number ≠ r.number) (i : Slot) : NumbersApart (s.setRecord i r) where
  history := hs.history
  retired j q hq e he := by
    rw [State.record_setRecord] at hq
    split at hq
    · cases hq
      exact unretired e he
    · exact hs.retired j q hq e he
  records j k q q' hq hq' same := by
    rw [State.record_setRecord] at hq hq'
    split at hq <;> split at hq'
    · next at_i at_i' => rw [at_i, at_i']
    · cases hq
      exact absurd same.symm (unheld k q' hq')
    · cases hq'
      exact absurd same (unheld j q hq)
    · exact hs.records j k q q' hq hq' same

/-! ### Operations that retire -/

theorem retireShadow {s : State} (hs : NumbersApart s) (i : Slot) : NumbersApart (s.retireShadow i) := by
  unfold State.retireShadow
  split
  · exact hs
  · next r hr =>
    split
    · exact hs.retire hr _
    · exact hs

theorem retireShadows {s : State} (hs : NumbersApart s) (slots : List Slot) :
    NumbersApart (slots.foldl State.retireShadow s) := by
  induction slots generalizing s with
  | nil => exact hs
  | cons i slots ih => exact ih (hs.retireShadow i)

theorem endOfSymbols {s : State} (hs : NumbersApart s) {i : Slot} {r : Record} (hr : s.record i = some r) :
    NumbersApart (s.endOfSymbols i r) := by
  have retired := hs.retire hr r.airOutcome
  have tail := retired.of_kept ((RecordsKept.enterTail _ r.row true).trans (.afterTailEntry s _)) (by simp)
  unfold State.endOfSymbols
  dsimp only
  split
  · exact tail
  · refine ite (retired.of_kept ((RecordsKept.decideWhenDue _ _).via rfl) ?_) tail
    exact history_ite (by simp) rfl

theorem carry {s : State} (hs : NumbersApart s) : NumbersApart s.carry := by
  have taken : NumbersApart s.takeCarry := hs.of_kept (.takeCarry s) rfl
  unfold State.carry
  split
  · exact hs
  · split
    · exact hs
    · next i _ _ r hr =>
      have onward : NumbersApart (if r.k ≤ s.pacer.symbol + 1 then s.takeCarry.endOfSymbols i r
          else s.takeCarry.nextSymbol i r) := ite (taken.endOfSymbols hr) (taken.of_kept (.nextSymbol hr) rfl)
      dsimp only
      split
      · exact ite (taken.of_kept (.stopRecord _ _ _ _) (by simp)) onward
      · exact onward

/-! ### The edge (R9, R121) -/

theorem stepPass {s : State} (hs : NumbersApart s) (p q : Instant) : NumbersApart (s.stepPass p q) :=
  ite hs ((hs.of_kept (.foldl (RecordsKept.stepRecord p q) _ s) (history_foldl (stepRecord_history p q) _ s)).retireShadows _)

theorem stepClock {s : State} (hs : NumbersApart s) (second : Word32) : NumbersApart (s.stepClock second) := by
  have locked : NumbersApart { s with time := { s.time with clock := ⟨second, 0⟩ } }.enterLocked :=
    hs.of_kept (.of_table (by simp)) (by simp)
  exact (ite (locked.of_kept (.takeSwitch _) (by simp)) locked).stepPass _ _

theorem ppsEdge {s : State} (hs : NumbersApart s) : NumbersApart s.ppsEdge := by
  have taken : NumbersApart s.edgeTaken := hs.of_kept (.of_table (by simp)) (by simp)
  have started : ∀ t e, NumbersApart (s.edgeTaken.edgeStarts t e) := fun t e => by
    unfold State.edgeStarts
    exact ite (taken.of_kept (.of_table (by simp)) (by simp)) taken
  have counted : NumbersApart (s.edgeTaken.runCounted s.time) := taken.of_kept (.of_table rfl) rfl
  unfold State.ppsEdge
  dsimp only
  split
  · exact started _ _
  · rw [State.edgeAcquiring_eq]
    split
    · exact counted
    · exact ite counted (ite (counted.of_kept (.of_table (by simp)) (by simp)) (ite (counted.stepClock _)
        (counted.of_kept (.of_table rfl) rfl)))
  · unfold State.edgeLocked
    exact ite (taken.of_kept (.of_table rfl) rfl) (ite (taken.of_kept (.of_table (by simp)) (by simp))
      (taken.of_kept (.of_table rfl) rfl))
  · exact started _ _

/-! ### Admission -/

/-- A new batch brings a number that the checks before it found nowhere (R84, R85, R88). -/
theorem newBatch {s : State} (hs : NumbersApart s) {p : RawPart} (unretired : ∀ e ∈ s.history, e.number ≠ p.number)
    (new : s.slotOf p.number = none) (l : Link) : NumbersApart (s.newBatch p l) := by
  have counted : ∀ c, NumbersApart (s.discard c) := fun c => hs.of_kept (.bump s _) rfl
  have unheld := (s.slotOf_eq_none_iff p.number).mp new
  refine ite (counted _) (ite (counted _) (ite (counted _) ?_))
  split
  · exact hs.of_kept (.of_table rfl) rfl
  · next i _ =>
    have created : NumbersApart (s.setRecord i (initialState ((s.zoneFor p).mode.acts) s.time.clock
        (s.newRecord p (s.profileFor p.tagSec)))) := hs.create (by simpa using unheld) (by simpa using unretired) i
    exact created.of_kept ((RecordsKept.resolve _ i).trans (.placeFirstPart _ i p l)) (by simp [State.createRecord])

theorem takePart {s : State} (hs : NumbersApart s) (l : Link) (body : List Byte) : NumbersApart (s.takePart l body) := by
  have counted : ∀ c, NumbersApart (s.discard c) := fun c => hs.of_kept (.bump s _) rfl
  refine ite (counted _) (ite (counted _) (ite (counted _) ?_))
  split
  · exact counted _
  · next retired =>
    split
    · split
      · next r hr =>
        exact hs.of_kept ((RecordsKept.knownBatch hr _ l).trans ((RecordsKept.settleKeying s _).trans (.retireNext s _)))
          (by simp)
      · exact hs
    · next new =>
      have taken := hs.newBatch (by simpa using retired) new l
      exact taken.of_kept ((RecordsKept.settleKeying s _).trans (.follow _ _)) (by simp [State.followCreation])

theorem takeFrame {s : State} (hs : NumbersApart s) (l : Link) (body : List Byte) : NumbersApart (s.takeFrame l body) := by
  have counted : ∀ c, NumbersApart (s.discard c) := fun c => hs.of_kept (.bump s _) rfl
  refine ite (hs.takePart l body) (ite (ite (counted _) ?_) (counted _))
  dsimp only
  split
  · exact counted _
  · exact hs.of_kept (.takeRequest s _ _ _) (by simp)

theorem arbiterChooses {s : State} (hs : NumbersApart s) : NumbersApart s.arbiterChooses := by
  refine ite hs ?_
  split
  · exact hs
  · dsimp only
    split
    · exact hs
    · exact takeFrame (hs.of_kept (.of_table (by simp)) (by simp)) _ _

theorem receiveByte {s : State} (hs : NumbersApart s) (l : Link) (b : Byte) : NumbersApart (s.receiveByte l b) := by
  have moved : ∀ d, NumbersApart (s.deframe l d) := fun d => hs.of_kept (.setLink s l _) (by simp [State.deframe])
  have ended : ∀ d, NumbersApart (s.endAttempt l d) := fun d => hs.of_kept (.endAttempt s l d) (by simp)
  unfold State.receiveByte
  split
  · exact ite (moved _) hs
  · exact moved _
  · exact ite (ended _) (ite (ended _) (moved _))
  · exact ite (moved _) (moved _)
  · exact moved _
  · exact ite (ended _) (ite (ended _) (((ended .good).of_kept (.setLink _ l _) (by simp)).arbiterChooses))

/-! ### The commands -/

/-- A command of the site time unit, or the fall of TXRDY (R18). -/
theorem exec_touching {c : Instr} {s t : State} (hs : NumbersApart s) (hc : touchesGate c = true) (h : exec c s = .next t) :
    NumbersApart t := by
  rcases exec_touching_history hc h with rfl | rfl | history
  · exact of_empty rfl rfl
  · exact hs.ppsEdge
  · rcases Machine.exec_touching hc h with ⟨-, rfl⟩ | ⟨-, rfl⟩ | ⟨table, -⟩
    · exact of_empty rfl rfl
    · exact hs.ppsEdge
    · exact hs.of_kept (.of_table table) history

theorem exec {c : Instr} {s t : State} (hs : NumbersApart s) (h : Machine.exec c s = .next t) : NumbersApart t := by
  cases hc : touchesGate c with
  | true => exact hs.exec_touching hc h
  | false =>
    match c with
    | .leadByte l => cases h; exact hs.receiveByte l _
    | .frameByte l b | .lengthEnd l b | .frameEnd l b => cases h; exact hs.receiveByte l b
    | .admissionFree => cases h; exact NumbersApart.arbiterChooses (hs.of_kept (.of_table rfl) rfl)
    | .retirement i => cases h; exact ite (hs.retireShadow i) hs
    | .pacerCarry => cases h; exact (ite hs.carry hs).of_kept (.retireNext s _) rfl
    | .warmRestart => cases h; exact ite (ite (hs.of_kept (.of_table rfl) rfl) (of_empty rfl rfl)) hs
    | .switchEvent => cases h; exact ite (hs.of_kept (.takeSwitch s) (by simp)) hs
    | .badChar l =>
      cases h
      split
      · exact hs
      · exact hs.of_kept (.endAttempt s l _) (by simp)
    | .gap l => cases h; exact ite (hs.of_kept (.endAttempt s l _) (by simp)) hs
    | .silenceTimeout l => cases h; exact hs.of_kept (.silenceCheck s l) (by simp)
    | .deadline i =>
      cases h
      refine of_kept (ite ?_ hs) (.retireNext s _) rfl
      exact hs.of_kept ((RecordsKept.deadlineActs s i).trans (.settleKeying s _)) (by simp)
    | .keptEndWhileLate i | .missedLaunch i =>
      cases h
      refine of_kept (ite ?_ hs) (.retireNext s _) rfl
      exact hs.of_kept ((RecordsKept.becomeShadow s i _).trans (.settleKeying s _)) (by simp)
    | .keyUp i =>
      cases h
      exact hs.of_kept ((RecordsKept.decideWhenDue s i).trans (.retireNext s _)) (history_ite (by simp) rfl)
    | .launch =>
      cases h
      split
      · next i due =>
        obtain ⟨_, _, r, there, keying, _⟩ := (State.launchDue_eq_some_iff s i).mp due
        exact hs.of_kept (.startSymbols there (by simp [keying])) (by simp)
      · exact hs
    | .blockRead =>
      cases h
      refine of_kept ?_ (.retireNext s _) rfl
      split
      · exact hs
      · next i r b wanted =>
        obtain ⟨_, there, _⟩ := (State.blockWanted_eq_some_iff s i r b).mp wanted
        exact ite (hs.of_kept (.readOnAir there b) (by simp)) (hs.of_kept (.readBeforeLaunch s i r b) (by simp))
    | .tailEnd =>
      cases h
      refine of_kept (ite ?_ hs) (.retireNext s _) rfl
      exact hs.of_kept ((RecordsKept.enterIdle s).trans (.decideIfDue _)) (by simp)
    | .status h' params | .read h' params | .write h' params | .digest h' params | .switch h' params
    | .cancelSwitch h' params | .store h' params | .recall h' params | .abort h' params | .ackAlarms h' params
    | .clearCounters h' params | .setLinkRate h' params | .restart h' params =>
      cases h
      exact hs.of_kept (.takeRequest s _ h' params) (by simp)
    | .notUnderstood h' code params => cases h; exact hs.of_kept (.takeRequest s code h' params) (by simp)
    | .storeComplete verified =>
      cases h
      split
      · exact hs.of_kept ((RecordsKept.storeEnded s _ verified).trans (.answer _ _ _ _ _)) (by simp)
      · exact hs
    | .readFramePlaced =>
      cases h
      split
      · exact ite (hs.of_kept (.placeReadFrame s _) (by simp)) hs
      · exact hs
    | .readStall => cases h; exact ite (hs.of_kept (.of_table rfl) rfl) hs
    | .replySent l => cases h; exact ite (hs.of_kept (.replyGone s l) (by simp)) hs
    | .coldStart | .refLost | .refBack | .ppsEdge | .ppsMissing | .todLeadByte _ | .todMessage _ _ _ _ | .secondBoundary
    | .txrdyFall => cases hc

end NumbersApart

/-- Settles O5: a beat leaves the records and the history, and every command keeps their numbers apart. -/
theorem everyStepKeepsNumbersDistinct : Obligations.EveryStepKeepsNumbersDistinct := by
  unfold Obligations.EveryStepKeepsNumbersDistinct
  intro s t hs h
  rw [numbersDistinct_iff] at hs ⊢
  rcases step_cases h with rfl | ⟨c, p, f, run, -⟩
  · exact hs.of_kept (.of_table (by rw [State.beat_eq])) (by rw [State.beat_eq])
  · have begun : NumbersApart { s with pending := p, free := f } := hs.of_kept (.of_table rfl) rfl
    exact begun.exec run

end Sys2Proof.Machine
end

section
/-! SUPPORT. What a creation gives its record, and what a complete record becomes (R46 to R56, R88, R90, R92, R106, R111). -/

namespace Sys2Proof.Machine

/-! ### Creation (R88, R90) -/

/-- The first symbol starts at N, also for an unused rate, whose increment is 0 (R49). -/
theorem ticksOf_first (inc : Nat) : ticksOf inc 0 = 0 := by
  rcases Nat.eq_zero_or_pos inc with rfl | pos
  · simp [ticksOf]
  · exact ticksOf_zero pos

/-- A record that starts at its first symbol is keyed its key lead before N (R53). -/
theorem Record.keptKeyUp_reformed {r : Record} (first : r.j = 0) (margin : Nat) :
    (r.reformed margin).keptKeyUp = r.launch.add (-(r.row.keyLead : Int)) := by
  simp [Record.reformed, Record.keptLaunch, first, ticksOf_first, Instant.add_add]

/-- The initial state of a record that is waiting and in time, by the instants reached (R90). -/
theorem initialState_eq {r : Record} (waiting : r.state = .assembling) (in_time : r.late = false) (zone : ZoneMode)
    (now : Instant) :
    initialState zone now r = if zone = .track then { r with state := .shadow, shadow := some .tracked }
      else if r.nominalEnd.diff now ≤ 0 then { r with state := .shadow, shadow := some .droppedLate }
      else if r.deadline.diff now < 0 ∧ r.row.late.drops = true then
        { r with state := .shadow, shadow := some .droppedLate }
      else { r with state := .assembling, late := decide (r.deadline.diff now < 0) } := by
  have as_it_is : { r with state := .assembling, late := false } = r := by rw [← waiting, ← in_time]
  unfold initialState
  simp only [Instant.reached_iff, Instant.passed_iff]
  by_cases passed : r.deadline.diff now < 0
  · by_cases drops : r.row.late.drops = true
    · simp only [passed, drops, if_true, and_self]
    · simp [passed, drops, waiting]
  · simp [passed, as_it_is]

/-- Settles O38: the record is built once, and the first line of the list that applies to it is taken. -/
theorem creationFixesTheLaunch : Obligations.CreationFixesTheLaunch := by
  unfold Obligations.CreationFixesTheLaunch
  intro s p n d zone now f row r q
  have residue : ∀ {m v : Nat} [NeZero m], v < m → (Fin.ofNat m v).val = v := Nat.mod_eq_of_lt
  have keyUp : r.keptKeyUp = r.launch.add (-(row.keyLead : Int)) := Record.keptKeyUp_reformed rfl _
  have absent : r.blocks = [] := by simp [r, State.newRecord, Record.reformed, Record.blocks]
  refine ⟨⟨rfl, rfl, rfl, rfl, rfl, rfl, rfl, rfl, rfl, keyUp, rfl, rfl, residue, residue, residue, rfl, rfl, rfl, residue,
    fun h => by rw [h]; rfl, fun h => by rw [h]; rfl, fun c h => by rw [h]; rfl, rfl, rfl, rfl, rfl, absent, rfl, rfl, rfl, rfl,
    rfl, rfl⟩, initialState_eq rfl rfl zone now⟩

/-! ### Completion (R92, R111) -/

theorem Record.complete_iff (r : Record) : r.complete = true ↔ ∀ n, n < r.partCount → r.parts.getLsbD n = true := by
  simp [Record.complete]

section
variable {s : State} {i : Slot} {r : Record} (there : s.record i = some r)
include there

theorem State.completeRecord_incomplete (lacking : r.complete ≠ true) : s.completeRecord i = s := by
  simp [State.completeRecord, there, lacking]

variable (waiting : r.state = .assembling) (whole : r.complete = true)
include waiting whole

theorem State.completeRecord_in_time (in_time : r.late = false) :
    s.completeRecord i = s.setRecord i { r with state := .ready } := by
  simp [State.completeRecord, there, waiting, whole, in_time]

theorem State.completeRecord_late (late : r.late = true) : s.completeRecord i = s.joinRule i r := by
  simp only [State.completeRecord, there, waiting, whole, late, and_self, if_true]

end

/-- The symbol at which the join rule starts a record: the first boundary it can still reach, or the one it had (R111). -/
def State.joinStart (s : State) (r : Record) : Nat :=
  max (firstBoundary r.inc
    ((s.time.clock.add ((s.store.settings.setupMargin : Int) + (r.row.keyLead : Int))).diff r.launch)) r.j

section
variable {s : State} {r : Record} (i : Slot)

theorem State.joinRule_drops (short : (r.k : Int) - s.joinStart r < r.row.joinMin ∨ r.k ≤ s.joinStart r) :
    s.joinRule i r = s.becomeShadow i .droppedLate := if_pos short

theorem State.joinRule_starts (long : ¬ ((r.k : Int) - s.joinStart r < r.row.joinMin ∨ r.k ≤ s.joinStart r)) :
    s.joinRule i r = s.setRecord i
      ({ r with j := s.joinStart r, state := .ready, joined := r.joined || decide (r.j < s.joinStart r) }.reformed
        s.store.settings.setupMargin) := if_neg long

end

/-- Settles O42: what is lacking, the late mark, and the range that the join rule leaves. -/
theorem completionGoesThroughTheJoinRule : Obligations.CompletionGoesThroughTheJoinRule := by
  unfold Obligations.CompletionGoesThroughTheJoinRule
  intro s i r there waiting complete margin start j keyUp
  have whole : complete → r.complete = true := r.complete_iff.mpr
  refine ⟨fun lacking => State.completeRecord_incomplete there fun h => lacking (r.complete_iff.mp h),
    fun h => State.completeRecord_in_time there waiting (whole h), fun h late short => ?_, fun h late long some_left => ?_⟩
  · rw [State.completeRecord_late there waiting (whole h) late, State.joinRule_drops i short]
  · have stays : ¬ ((r.k : Int) - j < r.row.joinMin ∨ r.k ≤ j) := by omega
    rw [State.completeRecord_late there waiting (whole h) late, State.joinRule_starts i stays]
    rfl

end Sys2Proof.Machine
end

section
/-! SUPPORT. The body of a batch part, its header field by field, and the checks it meets in order (R80 to R86, R91, R95, R96,
R177). -/

namespace Sys2Proof.Machine

/-! ### The header (R177) -/

/-- A field read byte by byte, most significant first. -/
theorem natAt_succ {bs : List Byte} {off n : Nat} (within : off + n < bs.length) :
    natAt bs off (n + 1) = (bs.getD off 0).toNat * 256 ^ n + natAt bs (off + 1) n := by
  have head : fieldAt bs off (n + 1) = bs.getD off 0 :: fieldAt bs (off + 1) n := by
    have there : off < bs.length := by omega
    rw [fieldAt, List.drop_eq_getElem_cons there, List.take_succ_cons, List.getD_eq_getElem _ _ there]
    rfl
  rw [natAt, head, unsignedOf_cons, length_fieldAt (by omega)]
  rfl

theorem natAt_two {bs : List Byte} {off : Nat} (within : off + 2 ≤ bs.length) :
    natAt bs off 2 = 256 * (bs.getD off 0).toNat + (bs.getD (off + 1) 0).toNat := by
  rw [natAt_succ (by omega), natAt_one]
  omega

theorem natAt_four {bs : List Byte} {off : Nat} (within : off + 4 ≤ bs.length) :
    natAt bs off 4 = 16777216 * (bs.getD off 0).toNat + 65536 * (bs.getD (off + 1) 0).toNat
      + 256 * (bs.getD (off + 2) 0).toNat + (bs.getD (off + 3) 0).toNat := by
  rw [natAt_succ (by omega), natAt_succ (by omega), natAt_two (by omega), Nat.add_assoc off 1 1, Nat.add_assoc off 2 1]
  omega

/-- A part of an index below its count holds 1024 symbols, or the rest in the last part (R82). -/
theorem RawPart.share_eq {p : RawPart} (inside : p.index < p.count) :
    p.share = if p.index + 1 = p.count then p.total - 1024 * (p.count - 1) else 1024 := by
  unfold RawPart.share
  by_cases last : p.index + 1 = p.count
  · rw [if_neg (by omega), if_pos last]
  · rw [if_pos (by omega), if_neg last]

theorem structureOk_iff (body : List Byte) :
    let p := rawPart body
    structureOk body = true ↔
      18 ≤ body.length ∧ (1 ≤ p.count ∧ p.count ≤ 16) ∧ p.index < p.count ∧ (1 ≤ p.total ∧ p.total ≤ 16384)
        ∧ (p.zone ≤ 63 ∧ p.mode ≤ 7 ∧ p.cls ≤ 3) ∧ (1024 * (p.count - 1) + 1 ≤ p.total ∧ p.total ≤ 1024 * p.count)
        ∧ body.length = 18 + (p.share + 3) / 4 := by
  simp only [structureOk, Bool.and_eq_true, decide_eq_true_eq, and_assoc]
  rfl

/-! ### The checks in order (R80 to R85) -/

theorem State.noTime_iff (s : State) : s.noTime = true ↔ ¬ (s.time.state ≠ .unset ∧ s.time.state ≠ .acquiring false) := by
  simp only [State.noTime, Bool.or_eq_true, decide_eq_true_eq, not_and_or, not_not]

/-- A taking that leaves the table, the sequencer and the pacer as they stood owes and leaves nothing (R80). -/
theorem State.settled_of_same {s t : State} (table : t.table = s.table) (keying : t.keying = s.keying)
    (pacer : t.pacer = s.pacer) :
    State.retireNext s (State.settleKeying s t) = t ∧ State.followCreation s (State.settleKeying s t) = t := by
  rw [State.settleKeying_of_same s t table keying]
  exact ⟨State.retireNext_of_same s t fun i => State.record_of_table t s i table,
    State.followCreation_of_same s t table keying pacer⟩

section
variable {s : State} (l : Link) {body : List Byte}

theorem State.takePart_noTime (untimed : s.noTime = true) : s.takePart l body = s.discard .noTime := if_pos untimed

variable (timed : ¬ s.noTime = true)
include timed

theorem State.takePart_badPart (bad : structureOk body = false) : s.takePart l body = s.discard .badPart :=
  (if_neg timed).trans (if_pos bad)

variable (good : ¬ structureOk body = false)
include good

theorem State.takePart_badTag (bad : 10000000 ≤ (rawPart body).tagTick) : s.takePart l body = s.discard .badTag :=
  (if_neg timed).trans ((if_neg good).trans (if_pos bad))

variable (tag : ¬ 10000000 ≤ (rawPart body).tagTick)
include tag

theorem State.takePart_lateCopy (held : ∃ e ∈ s.history, e.number = (rawPart body).number) :
    s.takePart l body = s.discard .lateCopy :=
  (if_neg timed).trans ((if_neg good).trans ((if_neg tag).trans (if_pos (by simpa using held))))

variable (unheld : ¬ ∃ e ∈ s.history, e.number = (rawPart body).number)
include unheld

theorem State.takePart_known {i : Slot} {r : Record} (slot : s.slotOf (rawPart body).number = some i)
    (there : s.record i = some r) :
    s.takePart l body = State.retireNext s (State.settleKeying s (s.knownBatch i r (rawPart body) l)) := by
  refine (if_neg timed).trans ((if_neg good).trans ((if_neg tag).trans ((if_neg (by simpa using unheld)).trans ?_)))
  simp only [slot, there]

theorem State.takePart_new (new : s.slotOf (rawPart body).number = none) :
    s.takePart l body = State.followCreation s (State.settleKeying s (s.newBatch (rawPart body) l)) := by
  refine (if_neg timed).trans ((if_neg good).trans ((if_neg tag).trans ((if_neg (by simpa using unheld)).trans ?_)))
  rw [new]

end

/-- Settles O35: the checks in order, the record of the number, and the body by its layout. -/
theorem partsAreJudgedInOrder : Obligations.PartsAreJudgedInOrder := by
  unfold Obligations.PartsAreJudgedInOrder
  refine ⟨fun s l body => ?_, fun body long => ?_, fun body => ?_⟩
  · intro p timed held
    have has_time : timed → ¬ s.noTime = true := fun h untimed => s.noTime_iff.mp untimed h
    have structured : structureOk body = true → ¬ structureOk body = false := by simp
    have in_second : p.tagTick < 10000000 → ¬ 10000000 ≤ p.tagTick := Nat.not_le.mpr
    exact ⟨fun untimed => State.takePart_noTime l (s.noTime_iff.mpr untimed),
      fun h bad => State.takePart_badPart l (has_time h) bad,
      fun h good bad => State.takePart_badTag l (has_time h) (structured good) bad,
      fun h good tag old => State.takePart_lateCopy l (has_time h) (structured good) (in_second tag) old,
      fun h good tag young i r slot there =>
        State.takePart_known l (has_time h) (structured good) (in_second tag) young slot there,
      fun h good tag young new => State.takePart_new l (has_time h) (structured good) (in_second tag) young new,
      fun n => ⟨s.slotOf_eq_none_iff n, fun i found => State.record_of_slotOf found⟩,
      fun t table keying pacer => State.settled_of_same table keying pacer⟩
  · intro p at'
    have number : p.number.toNat = natAt body 1 2 := Nat.mod_eq_of_lt (natAt_lt (by omega))
    have second : p.tagSec.toNat = natAt body 8 4 := Nat.mod_eq_of_lt (natAt_lt (by omega))
    exact ⟨number.trans (natAt_two (by omega)), natAt_one body 3, natAt_one body 4, natAt_one body 5, natAt_one body 6,
      natAt_one body 7, second.trans (natAt_four (by omega)), natAt_four (by omega), natAt_two (by omega), rfl⟩
  · intro p share
    have last_symbols : p.index < p.count → p.share = share := RawPart.share_eq
    have bound : 1 ≤ p.count → 1024 * p.count = 1024 * (p.count - 1) + 1024 := by omega
    refine ⟨(structureOk_iff body).trans ⟨?_, ?_⟩, fun good => ?_⟩
    · rintro ⟨long, count, inside, total, fields, ⟨above, below⟩, length⟩
      exact ⟨long, count, inside, total, fields, ⟨above, bound count.1 ▸ below⟩, last_symbols inside ▸ length⟩
    · rintro ⟨long, count, inside, total, fields, ⟨above, below⟩, length⟩
      exact ⟨long, count, inside, total, fields, ⟨above, (bound count.1).symm ▸ below⟩, (last_symbols inside).symm ▸ length⟩
    · obtain ⟨-, -, inside, -⟩ := (structureOk_iff body).mp good
      exact last_symbols inside

/-! ### A part of a known batch (R85, R86, R91, R96, R99) -/

theorem headerAgrees_iff (r : Record) (p : RawPart) : headerAgrees r p = true ↔
    r.zone.val = p.zone ∧ r.mode.val = p.mode ∧ r.cls.val = p.cls ∧ r.tag.sec = p.tagSec ∧ r.tag.tick.val = p.tagTick
      ∧ r.total = p.total ∧ r.partCount = p.count := by
  simp only [headerAgrees, Bool.and_eq_true, decide_eq_true_eq, and_assoc]

section
variable (s : State) (i : Slot) {r : Record} {p : RawPart} (l : Link)

theorem State.storePart_refused (short : s.symbols.allocate p.share p.symbols = none) :
    s.storePart i r p l = s.overload .storeFull := by
  simp only [State.storePart, short]

theorem State.storePart_stored (inside : p.index < 16) {chain : List Block} {store : SymbolStore}
    (taken : s.symbols.allocate p.share p.symbols = some (chain, store)) :
    s.storePart i r p l =
      (({ s with symbols := store }.setRecord i { r.accept p.index l with
        chains := r.chains.set p.index chain inside }).bump (.link l .partsTaken)).completeRecord i := by
  simp only [State.storePart, taken, dif_pos inside]
  rfl

theorem State.knownBatch_mismatch (differs : headerAgrees r p = false) : s.knownBatch i r p l = s.discard .mismatch :=
  if_pos differs

variable (agrees : ¬ headerAgrees r p = false)
include agrees

theorem State.knownBatch_duplicate (present : r.parts.getLsbD p.index = true) :
    s.knownBatch i r p l = s.discard .duplicate := (if_neg agrees).trans (if_pos present)

variable (absent : ¬ r.parts.getLsbD p.index = true)
include absent

theorem State.knownBatch_shadow (shadow : r.state = .shadow) : s.knownBatch i r p l = s.takeToShadow i r p l :=
  (if_neg agrees).trans ((if_neg absent).trans (by rw [shadow]))

theorem State.knownBatch_assembling (waiting : r.state = .assembling) : s.knownBatch i r p l = s.storePart i r p l :=
  (if_neg agrees).trans ((if_neg absent).trans (by rw [waiting]))

end

/-- Settles O36: the header, the index, then the record's state decide. -/
theorem partOfAKnownBatch : Obligations.PartOfAKnownBatch := by
  unfold Obligations.PartOfAKnownBatch
  intro s i r p l agrees
  have differs : ¬ agrees → headerAgrees r p = false := fun h => Bool.eq_false_iff.mpr fun e => h ((headerAgrees_iff r p).mp e)
  have same : agrees → ¬ headerAgrees r p = false := fun h => by simp [(headerAgrees_iff r p).mpr h]
  have lacks : r.parts.getLsbD p.index = false → ¬ r.parts.getLsbD p.index = true := by simp
  refine ⟨fun h => s.knownBatch_mismatch i l (differs h), fun h present => s.knownBatch_duplicate i l (same h) present,
    fun h absent shadow => s.knownBatch_shadow i l (same h) (lacks absent) shadow,
    fun h absent waiting short => ?_, fun inside chain store h absent waiting taken => ?_⟩
  · rw [s.knownBatch_assembling i l (same h) (lacks absent) waiting, s.storePart_refused i l short]
    rfl
  · rw [s.knownBatch_assembling i l (same h) (lacks absent) waiting, s.storePart_stored i l inside taken]
    rfl

end Sys2Proof.Machine
end

section
/-! SUPPORT. A part in the symbol store: the blocks of its chain written one by one, and each symbol read back out of its place in
a byte of its block (R82, R97 to R99, R103). -/

namespace Sys2Proof.Machine

/-! ### One block written (R97) -/

theorem length_padBlock (bytes : List Byte) : (padBlock bytes).length = 64 := by
  simp [padBlock]

/-- A run of 64 bytes holds its first 64 bytes, and 0 where it is shorter. -/
theorem getD_padBlock (bytes : List Byte) {k : Nat} (inside : k < 64) : (padBlock bytes).getD k 0 = bytes.getD k 0 := by
  simp only [padBlock, List.getD_eq_getElem?_getD, List.getElem?_take_of_lt inside, List.getElem?_append,
    List.getElem?_replicate]
  split
  · rfl
  · next beyond =>
    rw [List.getElem?_eq_none (Nat.not_lt.mp beyond)]
    split <;> rfl

/-- A run of bytes is the list of its entries. -/
theorem map_getD_range {bytes : List Byte} {n : Nat} (length : bytes.length = n) :
    (List.range n).map (fun k => bytes.getD k 0) = bytes := by
  subst length
  exact List.ext_getElem (by simp) fun k _ inside => by simp [inside]

theorem SymbolStore.blockBytes_eq (t : SymbolStore) (b : Block) :
    t.blockBytes b = (List.range 64).map (fun k => t.memory.read (64 * b.val + k)) := rfl

/-- A block written reads back, and every other block reads as it did. -/
theorem SymbolStore.blockBytes_writeBlock {t : SymbolStore} (wf : t.memory.wf = true) (b c : Block) (bytes : List Byte) :
    (t.writeBlock b bytes).blockBytes c = if c = b then padBlock bytes else t.blockBytes c := by
  have read : ∀ k, (t.writeBlock b bytes).memory.read (64 * c.val + k) =
      if 64 * b.val ≤ 64 * c.val + k then ((padBlock bytes)[64 * c.val + k - 64 * b.val]?).getD (t.memory.read (64 * c.val + k))
      else t.memory.read (64 * c.val + k) := fun k => Memory.read_writeRun _ _ _ _ wf
  rw [SymbolStore.blockBytes_eq, SymbolStore.blockBytes_eq]
  by_cases same : c = b
  · subst same
    rw [if_pos rfl, ← map_getD_range (length_padBlock bytes)]
    refine List.map_congr_left fun k there => ?_
    have inside : k < (padBlock bytes).length := by rw [length_padBlock]; exact List.mem_range.mp there
    rw [read, if_pos (by omega), Nat.add_sub_cancel_left]
    simp [List.getElem?_eq_getElem inside]
  · have apart : c.val ≠ b.val := fun e => same (Fin.ext e)
    rw [if_neg same]
    refine List.map_congr_left fun k there => ?_
    have inside : k < 64 := List.mem_range.mp there
    rw [read]
    split
    · rw [List.getElem?_eq_none (by rw [length_padBlock]; omega)]
      rfl
    · rfl

theorem SymbolStore.checks_writeBlock (t : SymbolStore) (b c : Block) (bytes : List Byte) :
    (t.writeBlock b bytes).checks.get c = if c = b then crc16 (padBlock bytes) else t.checks.get c := by
  simp only [SymbolStore.writeBlock, Vector.get, Fin.cast, Vector.getElem_toArray, Vector.getElem_set, Fin.ext_iff,
    eq_comm (a := b.val)]

/-! ### A chain written -/

/-- A block outside the chain keeps its bytes and its check code. -/
theorem SymbolStore.writeChain_other {chain : List Block} {t : SymbolStore} (wf : t.memory.wf = true) {b : Block}
    (outside : b ∉ chain) (bytes : List Byte) :
    (t.writeChain chain bytes).checks.get b = t.checks.get b ∧ (t.writeChain chain bytes).blockBytes b = t.blockBytes b := by
  induction chain generalizing t bytes with
  | nil => exact ⟨rfl, rfl⟩
  | cons a chain ih =>
    obtain ⟨other, later⟩ := not_or.mp (List.mem_cons.not.mp outside)
    obtain ⟨checks, block⟩ := ih (SymbolStore.writeBlock_wf t a _ wf) later (bytes.drop 64)
    exact ⟨checks.trans ((SymbolStore.checks_writeBlock t a b _).trans (if_neg other)),
      block.trans ((SymbolStore.blockBytes_writeBlock wf a b _).trans (if_neg other))⟩

/-- The block at a place of the chain holds the bytes at that place of the run, under their own check code. -/
theorem SymbolStore.writeChain_at {chain : List Block} (distinct : chain.Nodup) {t : SymbolStore} (wf : t.memory.wf = true)
    (bytes : List Byte) {c : Nat} {b : Block} (there : chain[c]? = some b) :
    (t.writeChain chain bytes).blockBytes b = padBlock (fieldAt bytes (64 * c) 64)
      ∧ (t.writeChain chain bytes).checks.get b = crc16 (padBlock (fieldAt bytes (64 * c) 64)) := by
  induction chain generalizing t bytes c with
  | nil => cases there
  | cons a chain ih =>
    obtain ⟨absent, rest⟩ := List.nodup_cons.mp distinct
    have written := SymbolStore.writeBlock_wf t a (bytes.take 64) wf
    cases c with
    | zero =>
      obtain rfl : a = b := by simpa using there
      obtain ⟨checks, block⟩ := SymbolStore.writeChain_other written absent (bytes.drop 64)
      exact ⟨block.trans ((SymbolStore.blockBytes_writeBlock wf a a _).trans (if_pos rfl)),
        checks.trans ((SymbolStore.checks_writeBlock t a a _).trans (if_pos rfl))⟩
    | succ c =>
      have later := ih rest written (bytes.drop 64) (c := c) (by simpa using there)
      have place : fieldAt (bytes.drop 64) (64 * c) 64 = fieldAt bytes (64 * (c + 1)) 64 := by
        simp only [fieldAt, List.drop_drop]
        rw [show 64 + 64 * c = 64 * (c + 1) by omega]
      rw [place] at later
      exact later

/-! ### A symbol in its byte (R82, R97) -/

/-- The mask of a last byte leaves both bits of its first symbols. -/
theorem mask_symbol (kept i : Fin 4) (some_kept : kept.val ≠ 0) :
    ((0xFF <<< (8 - 2 * kept.val) : Nat) : Byte).getLsbD (7 - 2 * i.val) = decide (i.val < kept.val)
      ∧ ((0xFF <<< (8 - 2 * kept.val) : Nat) : Byte).getLsbD (6 - 2 * i.val) = decide (i.val < kept.val) := by
  revert kept i
  decide

/-- A byte with its unused symbols cleared, at both bits of a symbol (R82). -/
theorem keepSymbols_bits (p m : Nat) (b : Byte) {n : Nat} (bit : n = 7 - 2 * (m % 4) ∨ n = 6 - 2 * (m % 4)) :
    (keepSymbols p b).getLsbD n = (b.getLsbD n && decide (p % 4 = 0 ∨ m % 4 < p % 4)) := by
  unfold keepSymbols
  by_cases whole : p % 4 = 0
  · simp [whole]
  · obtain ⟨high, low⟩ := mask_symbol ⟨p % 4, Nat.mod_lt _ (by decide)⟩ ⟨m % 4, Nat.mod_lt _ (by decide)⟩ whole
    have masked : ((0xFF <<< (8 - 2 * (p % 4)) : Nat) : Byte).getLsbD n = decide (m % 4 < p % 4) := by
      obtain rfl | rfl := bit
      · exact high
      · exact low
    rw [if_neg whole, BitVec.getLsbD_and, masked]
    simp only [whole, false_or]

/-- A stored byte is the part's byte, the last one with its unused symbols cleared (R82). -/
theorem getD_storedBytes (p : Nat) (bytes : List Byte) (k : Nat) :
    (storedBytes p bytes).getD k 0 = if k + 1 = bytes.length then keepSymbols p (bytes.getD k 0) else bytes.getD k 0 := by
  obtain rfl | ⟨first, last, rfl⟩ := List.eq_nil_or_concat' bytes
  · simp [storedBytes]
  · simp only [storedBytes, List.getLast?_append, List.getLast?_singleton, Option.some_or, List.dropLast_concat,
      List.length_append, List.length_singleton, Nat.add_right_cancel_iff, List.getD_eq_getElem?_getD, List.getElem?_append]
    by_cases at_last : k = first.length
    · simp [at_last]
    · rw [if_neg at_last]
      split
      · rfl
      · rw [List.getElem?_eq_none (by simp; omega), List.getElem?_eq_none (by simp; omega)]

theorem symbolAt_storedBytes {p : Nat} {bytes : List Byte} (length : bytes.length = (p + 3) / 4) (m : Nat) :
    symbolAt (storedBytes p bytes) m = if m < p then symbolAt bytes m else 0 := by
  rw [symbolAt_eq, symbolAt_eq, getD_storedBytes]
  by_cases last : m / 4 + 1 = bytes.length
  · have kept : (p % 4 = 0 ∨ m % 4 < p % 4) ↔ m < p := by omega
    rw [if_pos last, keepSymbols_bits p m _ (Or.inl rfl), keepSymbols_bits p m _ (Or.inr rfl)]
    by_cases inside : m < p
    · simp [kept.mpr inside, inside]
    · simp [kept.not.mpr inside, inside]
  · rw [if_neg last]
    split
    · rfl
    · rw [List.getD_eq_default _ _ (by omega)]
      simp

/-- A block holds the 256 symbols of its place in the part (R97). -/
theorem symbolAt_padBlock (bytes : List Byte) (c : Nat) {pos : Nat} (inside : pos < 256) :
    symbolAt (padBlock (fieldAt bytes (64 * c) 64)) pos = symbolAt bytes (256 * c + pos) := by
  have byte : (padBlock (fieldAt bytes (64 * c) 64)).getD (pos / 4) 0 = bytes.getD ((256 * c + pos) / 4) 0 := by
    have place : (256 * c + pos) / 4 = 64 * c + pos / 4 := by omega
    have below : pos / 4 < 64 := by omega
    rw [getD_padBlock _ below, place]
    simp only [fieldAt, List.getD_eq_getElem?_getD, List.getElem?_take_of_lt below, List.getElem?_drop]
  have turn : (256 * c + pos) % 4 = pos % 4 := by omega
  rw [symbolAt, symbolAt, byte, turn]

/-- Settles O39: the chain is written block by block, and a symbol is read out of the byte it was stored in. -/
theorem storedPartReadsBack : Obligations.StoredPartReadsBack := by
  unfold Obligations.StoredPartReadsBack
  refine ⟨fun t p bytes wf distinct _ length => ?_, SymbolStore.blockBytes_eq, fun m a v wf x => Memory.read_write m 0 a x v wf⟩
  rcases SymbolStore.allocate_cases t p bytes with ⟨short, refused⟩ | ⟨room, taken⟩
  · exact ⟨fun _ => refused, fun long => absurd short (Nat.not_lt.mpr long)⟩
  · refine ⟨fun short => absurd room (Nat.not_le.mpr short), fun _ =>
      ⟨_, taken, SymbolStore.writeChain_free _ _ _, ?_, ?_⟩⟩
    · intro c b there
      have chain : (t.free.take ((p + 255) / 256)).Nodup := (List.take_sublist _ _).nodup distinct
      obtain ⟨block, checks⟩ := SymbolStore.writeChain_at (t := { t with free := t.free.drop (blocksFor p) }) chain wf
        (storedBytes p bytes) there
      refine ⟨checks.trans (congrArg crc16 block.symm), fun pos inside => ?_⟩
      exact (congrArg (symbolAt · pos) block).trans
        ((symbolAt_padBlock _ c inside).trans (symbolAt_storedBytes length _))
    · intro b outside
      exact SymbolStore.writeChain_other (t := { t with free := t.free.drop (blocksFor p) }) wf outside _

end Sys2Proof.Machine
end

section
/-! SUPPORT. What one move may do to the batch table, the free list, the pending switch, the launch history and the queues of the
links, said once as a relation with a constructor for each kind of move; and every operation of the model shown to be such a
move. The laws on the blocks, the SHADOW records, the dependent marks and the buffers are read off its constructors. -/

namespace Sys2Proof.Machine

/-! ### The relation -/

/-- A record as it stood, but for fields that no law on chains, outcomes or dependent marks reads; parts may have come. -/
structure Record.Alike (q r : Record) : Prop where
  chains : r.chains = q.chains
  shadow : r.shadow = q.shadow
  state : r.state = .shadow ↔ q.state = .shadow
  dependent : r.dependent = q.dependent
  parts : ∀ n, r.parts.getLsbD n = false → q.parts.getLsbD n = false

/-- A link after a move: its frame buffers and its reply queue hold no more than their places, or no more than before. -/
structure CarriageLink.Within (c d : CarriageLink) : Prop where
  frames : d.buffers.length ≤ Config.frameBuffers ∨ d.buffers.length ≤ c.buffers.length
  replies : d.replies.length ≤ Config.replyPlaces ∨ d.replies.length ≤ c.replies.length

/-- The record of a part's index in its chain and its sources (R91, R100). -/
def Record.holding (r : Record) (p : RawPart) (l : Link) (inside : p.index < 16) (chain : List Block) : Record :=
  { r.accept p.index l with chains := r.chains.set p.index chain inside }

/-- What the laws on the table, the free list and the buffers read of a state. -/
def State.held (s : State) : Vector (Option Record) Config.slots × List Block × Option PendingSwitch × List HistoryEntry
    × CarriageLink × CarriageLink :=
  (s.table, s.symbols.free, s.store.pending, s.history, s.linkA, s.linkB)

/-- The moves of the table, the free list, the pending switch, the history and the queues of the links. -/
inductive TableMove : State → State → Prop
  /-- None of them changes. -/
  | quiet {s t} (held : t.held = s.held) : TableMove s t
  /-- A link takes a frame or a reply where it has a place, or gives one up. -/
  | link {s l c} (within : (s.link l).Within c) : TableMove s (s.setLink l c)
  /-- A record changes in what the laws do not read. -/
  | record {s i q r} (there : s.record i = some q) (alike : q.Alike r) : TableMove s (s.setRecord i r)
  /-- A record becomes SHADOW (R114). -/
  | shadow (s i o) : TableMove s (s.becomeShadow i o)
  /-- A record retires (R117). -/
  | retire {s i r} (there : s.record i = some r) (o) : TableMove s (s.retire i r o)
  /-- A record comes into a FREE slot, without blocks (R88). -/
  | create {s i r} (vacant : s.record i = none) (chains : r.chains = Vector.replicate 16 [])
      (outcome : r.shadow.isSome = true ↔ r.state = .shadow) (dependent : r.dependent = true → s.store.pending ≠ none) :
      TableMove s (s.setRecord i r)
  /-- A part that was absent is stored (R91, R99). -/
  | store {s i r p chain store l} (there : s.record i = some r) (live : r.state ≠ .shadow) (inside : p.index < 16)
      (absent : r.parts.getLsbD p.index = false) (taken : s.symbols.allocate p.share p.symbols = some (chain, store)) :
      TableMove s ({ s with symbols := store }.setRecord i (r.holding p l inside chain))
  /-- The pending switch changes, and the dependent marks go with it (R28). -/
  | switch {s t} (held : { t with store := { t.store with pending := s.store.pending } }.held = s.clearDependents.held) :
      TableMove s t
  /-- A restart empties the table and the history and rebuilds the free list (R102, R105, R122, R168). -/
  | restart {s t} (table : t.table = Vector.replicate Config.slots none) (free : t.symbols.free = fullFreeList)
      (history : t.history = []) (links : ∀ l, (s.link l).Within (t.link l)) : TableMove s t
  | trans {s u t} (h : TableMove s u) (h' : TableMove u t) : TableMove s t

theorem Record.Alike.refl (r : Record) : r.Alike r := ⟨rfl, rfl, Iff.rfl, rfl, fun _ h => h⟩

theorem CarriageLink.Within.refl (c : CarriageLink) : c.Within c := ⟨Or.inr le_rfl, Or.inr le_rfl⟩

/-- A link whose queues are as they were. -/
theorem CarriageLink.Within.of_same {c d : CarriageLink} (frames : d.buffers = c.buffers) (replies : d.replies = c.replies) :
    c.Within d := ⟨Or.inr (by rw [frames]), Or.inr (by rw [replies])⟩

@[simp] theorem CarriageLink.beginReply_replies (c : CarriageLink) : c.beginReply.replies = c.replies := by
  unfold CarriageLink.beginReply
  split <;> rfl

namespace TableMove

theorem refl (s : State) : TableMove s s := quiet rfl

/-- A move out of a state that holds what another holds. -/
theorem via {s u t : State} (h : TableMove u t) (held : u.held = s.held) : TableMove s t := (quiet held).trans h

theorem ite {s t u : State} {p : Prop} [Decidable p] (ht : TableMove s t) (hu : TableMove s u) :
    TableMove s (if p then t else u) := by
  split
  · exact ht
  · exact hu

theorem foldl {α : Type} {f : State → α → State} (hf : ∀ s a, TableMove s (f s a)) (xs : List α) (s : State) :
    TableMove s (xs.foldl f s) := by
  induction xs generalizing s with
  | nil => exact refl s
  | cons x xs ih => exact (hf s x).trans (ih (f s x))

/-! ### Operations that touch none of it -/

theorem bump (s : State) (c : Counter) : TableMove s (s.bump c) := quiet rfl
theorem latch (s : State) (a : Alarm) : TableMove s (s.latch a) := quiet rfl
theorem follow (s : State) (cs : List Instr) : TableMove s (s.follow cs) := quiet rfl
theorem retireNext (before s : State) : TableMove s (State.retireNext before s) := quiet rfl
theorem considerNext (s : State) : TableMove s s.considerNext := quiet rfl
theorem enterIdle (s : State) : TableMove s s.enterIdle := quiet rfl
theorem enterTail (s : State) (row : ModeRow) (strobe : Bool) : TableMove s (s.enterTail row strobe) :=
  quiet (by cases strobe <;> rfl)
theorem tailFromHold (s : State) : TableMove s s.tailFromHold := enterTail s _ _
theorem zeroTail (s : State) : TableMove s s.zeroTail := ite (enterIdle s) (refl s)
theorem setNvFault (s : State) (f : Bool) : TableMove s (s.setNvFault f) := ite (quiet rfl) (quiet rfl)
theorem setClockState (s : State) (c : ClockState) : TableMove s (s.setClockState c) := ite (quiet rfl) (quiet rfl)
theorem enterLocked (s : State) : TableMove s s.enterLocked := (setClockState _ _).via rfl

/-! ### Links and replies -/

/-- A link whose queues stand. -/
theorem setLink_same {s : State} {l : Link} {c : CarriageLink} (frames : c.buffers = (s.link l).buffers)
    (replies : c.replies = (s.link l).replies) : TableMove s (s.setLink l c) := link (.of_same frames replies)

theorem endAttempt (s : State) (l : Link) (d : Disposition) : TableMove s (s.endAttempt l d) :=
  trans (by exact setLink_same rfl rfl) (bump _ _)

theorem deframe (s : State) (l : Link) (d : Deframer) : TableMove s (s.deframe l d) := setLink_same rfl rfl

/-- A reply comes into the queue of its link where that has a place (R70, R71). -/
theorem placeReply (s : State) (l : Link) (body : List Byte) : TableMove s (s.placeReply l body) := by
  rcases s.placeReply_cases l body with ⟨room, e⟩ | ⟨-, e⟩
  · rw [e]
    exact link ⟨Or.inr (by rw [CarriageLink.beginReply_buffers]), Or.inl (by simpa [Config.replyPlaces] using room)⟩
  · rw [e]
    exact bump s _

theorem answer (s : State) (h : Handed) (q : Request) (res : Result) (data : List Byte) :
    TableMove s (s.answer h q res data) := by
  rcases State.answer_cases s h q res data with ⟨-, e⟩ | ⟨-, e⟩
  · rw [e]
    exact placeReply s _ _
  · rw [e]
    exact refl s

theorem applyRate (s : State) (l : Link) (code : Nat) : TableMove s (s.applyRate l code) :=
  ite (setLink_same rfl rfl) (trans (by exact setLink_same rfl rfl) (endAttempt _ _ _))

theorem silenceCheck (s : State) (l : Link) : TableMove s (s.silenceCheck l) :=
  ite (trans (by exact setLink_same rfl rfl) (latch _ _)) (refl s)

theorem rateFollows (h : Handed) (old new : Settings) (s : State) (l : Link) :
    TableMove s (State.rateFollows h old new s l) :=
  ite (refl s) (ite (setLink_same rfl rfl) (applyRate s l _))

theorem installSettings (s : State) (h : Handed) (new : Settings) {reply : State → State}
    (replied : ∀ u, TableMove u (reply u)) : TableMove s (s.installSettings h new reply) :=
  (quiet rfl : TableMove s { s with store := { s.store with settings := new } }).trans
    ((silenceCheck _ .a).trans ((silenceCheck _ .b).trans ((replied _).trans
      ((rateFollows _ _ _ _ _).trans (rateFollows _ _ _ _ _)))))

theorem rateTurn (s : State) (l : Link) : TableMove s (s.rateTurn l) := by
  unfold State.rateTurn
  split
  · exact refl s
  · exact ite (applyRate s l _) (setLink_same rfl rfl)

/-- The head reply leaves its queue (R70). -/
theorem replyGone (s : State) (l : Link) : TableMove s (s.replyGone l) := by
  have left : TableMove s (s.setLink l (s.link l).replyLeft) :=
    link ⟨Or.inr le_rfl, Or.inr (by simp [CarriageLink.replyLeft])⟩
  rw [State.replyGone_eq, State.sawPlace_eq]
  exact left.trans ((bump _ _).trans ((rateTurn _ l).trans
    ((setLink_same (CarriageLink.beginReply_buffers _) (CarriageLink.beginReply_replies _)).trans (quiet rfl))))

/-! ### The batch table -/

theorem retireShadow (s : State) (i : Slot) : TableMove s (s.retireShadow i) := by
  unfold State.retireShadow
  split
  · exact refl s
  · next hr =>
    split
    · exact retire hr _
    · exact refl s

/-- A record that stays what it is but for its range, its marks and its stop. -/
theorem setRecord_from {s : State} {i : Slot} {q r : Record} (there : s.record i = some q) (chains : r.chains = q.chains)
    (shadow : r.shadow = q.shadow) (state : r.state = .shadow ↔ q.state = .shadow) (dependent : r.dependent = q.dependent)
    (parts : r.parts = q.parts) : TableMove s (s.setRecord i r) :=
  record there ⟨chains, shadow, state, dependent, fun n h => by rwa [parts] at h⟩

/-- A record that is not SHADOW goes to another state. -/
theorem setRecord_live {s : State} {i : Slot} {q r : Record} (there : s.record i = some q) (was : q.state ≠ .shadow)
    (now : r.state ≠ .shadow) (chains : r.chains = q.chains) (shadow : r.shadow = q.shadow)
    (dependent : r.dependent = q.dependent) (parts : r.parts = q.parts) : TableMove s (s.setRecord i r) :=
  setRecord_from there chains shadow ⟨fun h => absurd h now, fun h => absurd h was⟩ dependent parts

theorem joinRule {s : State} {i : Slot} {r : Record} (there : s.record i = some r) (live : r.state ≠ .shadow) :
    TableMove s (s.joinRule i r) :=
  ite (shadow s i _) (setRecord_live there live (by simp [Record.reformed]) rfl rfl rfl rfl)

theorem completeRecord (s : State) (i : Slot) : TableMove s (s.completeRecord i) := by
  unfold State.completeRecord
  split
  · exact refl s
  · next r there =>
    split
    · next due =>
      have live : r.state ≠ .shadow := by simp [due.1]
      exact ite (joinRule there live) (setRecord_live there live (by simp) rfl rfl rfl rfl)
    · exact refl s

theorem deadlineActs (s : State) (i : Slot) : TableMove s (s.deadlineActs i) := by
  unfold State.deadlineActs
  split
  · exact refl s
  · next there => exact ite (shadow s i _) (setRecord_from there rfl rfl Iff.rfl rfl rfl)

theorem setPending (s : State) (p : Option PendingSwitch) : TableMove s (s.setPending p) := switch rfl

theorem takeSwitch (s : State) : TableMove s s.takeSwitch := by
  unfold State.takeSwitch
  split
  · exact refl s
  · exact switch rfl

/-! ### Keying -/

theorem dropRecord (s : State) (i : Slot) (o : BatchOutcome) : TableMove s (s.dropRecord i o) := by
  have dropped := shadow s i o
  unfold State.dropRecord
  split
  · exact refl s
  · dsimp only
    split
    · exact dropped.trans (enterTail _ _ _)
    · exact dropped.trans (tailFromHold _)
    · exact dropped

theorem startSymbols {s : State} {i : Slot} {r : Record} (there : s.record i = some r) (live : r.state ≠ .shadow) :
    TableMove s (s.startSymbols i) := by
  rw [State.startSymbols]
  simp only [there]
  exact (setRecord_live (r := { r with state := .onAir, sent := r.sent + 1 }) there live (by simp) rfl rfl rfl rfl).trans
    (quiet rfl)

theorem becomeKeying {s : State} {i : Slot} {r : Record} (there : s.record i = some r) (live : r.state ≠ .shadow) :
    TableMove s (s.becomeKeying i r) := by
  have keying : TableMove s (s.setRecord i { r with state := .keying }) :=
    setRecord_live there live (by simp) rfl rfl rfl rfl
  unfold State.becomeKeying
  dsimp only
  split <;> exact keying.trans (quiet rfl)

theorem refuseKeyUp (s : State) (i : Slot) (o : BatchOutcome) : TableMove s (s.refuseKeyUp i o) := by
  have refused := shadow s i o
  unfold State.refuseKeyUp
  dsimp only
  split
  · exact refused.trans ((tailFromHold _).trans (zeroTail _))
  · exact refused

/-- A record that is decided is READY, so it is not SHADOW (R139). -/
theorem decideKeyUp {s : State} {i : Slot} (due : s.keyUpReached i = true) : TableMove s (s.decideKeyUp i) := by
  obtain ⟨r, there, ready, -⟩ := (State.keyUpReached_iff s i).mp due
  have live : r.state ≠ .shadow := by simp [ready]
  have keying := becomeKeying there live
  have refused : ∀ a o, TableMove s ((s.latch a).refuseKeyUp i o) := fun a o => (latch s a).trans (refuseKeyUp _ i o)
  have now_keying := GuardedMove.becomeKeying_record s i r i
  rw [if_pos rfl] at now_keying
  unfold State.decideKeyUp
  simp only [there]
  refine ite (refused _ _) (ite (refused _ _) ?_)
  split
  · exact keying.trans ((latch _ _).trans ((dropRecord _ _ _).trans (zeroTail _)))
  · next img _ =>
    have read : TableMove s { s.becomeKeying i r with
        pacer := { acc := 0, symbol := r.j, block := some img, next := none } } := keying.trans (quiet rfl)
    exact ite (read.trans (startSymbols now_keying (by simp))) read

/-- A decision where one is due. -/
theorem decideWhenDue (s : State) (i : Slot) : TableMove s (if s.keyUpDue i then s.decideThenNext i else s) := by
  split
  · next due =>
    have decided := decideKeyUp (State.keyUpReached_of_keyUpDue due)
    exact ite (decided.trans (considerNext _)) decided
  · exact refl s

theorem decideIfDue (s : State) : TableMove s s.decideIfDue := by
  unfold State.decideIfDue
  split
  · exact refl s
  · exact decideWhenDue s _

theorem afterTailEntry (before s : State) : TableMove s (State.afterTailEntry before s) :=
  ite ((ite (decideIfDue s) (refl s)).trans (zeroTail _)) (refl s)

theorem settleKeying (before s : State) : TableMove s (State.settleKeying before s) :=
  (ite (tailFromHold s) (refl s)).trans (afterTailEntry before _)

theorem readOnAir {s : State} {i : Slot} {r : Record} (there : s.record i = some r) (b : Nat) :
    TableMove s (s.readOnAir i r b) := by
  unfold State.readOnAir
  split
  · exact quiet rfl
  · exact (latch s _).trans (setRecord_from (q := r) there rfl rfl Iff.rfl rfl rfl)

theorem readBeforeLaunch (s : State) (i : Slot) (r : Record) (b : Nat) : TableMove s (s.readBeforeLaunch i r b) := by
  unfold State.readBeforeLaunch
  split
  · exact quiet rfl
  · exact (latch s _).trans ((dropRecord _ i _).trans (settleKeying s _))

theorem endOfSymbols {s : State} {i : Slot} {r : Record} (there : s.record i = some r) :
    TableMove s (s.endOfSymbols i r) := by
  have retired := retire there r.airOutcome
  have tail := retired.trans ((enterTail _ r.row true).trans (afterTailEntry s _))
  unfold State.endOfSymbols
  dsimp only
  split
  · exact tail
  · exact ite (retired.trans ((decideWhenDue _ _).via rfl)) tail

theorem carry (s : State) : TableMove s s.carry := by
  have taken : TableMove s s.takeCarry := quiet rfl
  unfold State.carry
  split
  · exact refl s
  · split
    · exact refl s
    · next i _ _ r there =>
      have counted : TableMove s.takeCarry (s.takeCarry.setRecord i { r with sent := r.sent + 1 }) :=
        setRecord_from (q := r) there rfl rfl Iff.rfl rfl rfl
      have sent : TableMove s.takeCarry (s.takeCarry.nextSymbol i r) := counted.trans (quiet rfl)
      have onward : TableMove s (if r.k ≤ s.pacer.symbol + 1 then s.takeCarry.endOfSymbols i r
          else s.takeCarry.nextSymbol i r) := taken.trans (ite (endOfSymbols there) sent)
      have stopped : ∀ o, TableMove s (s.takeCarry.stopRecord i r o) := fun o =>
        taken.trans ((shadow _ i o).trans ((enterTail _ _ _).trans (afterTailEntry _ _)))
      dsimp only
      split
      · exact ite (stopped _) onward
      · exact onward

/-! ### The conflict resolver -/

theorem headTrim_alike (guard margin : Nat) (w l : Record) : l.Alike (headTrim guard margin w l) := by
  unfold headTrim
  dsimp only
  split <;> exact ⟨rfl, rfl, Iff.rfl, rfl, fun _ h => h⟩

theorem tailTrim_alike (guard : Nat) (w l : Record) : l.Alike (tailTrim guard w l) := by
  unfold tailTrim
  dsimp only
  split <;> exact ⟨rfl, rfl, Iff.rfl, rfl, fun _ h => h⟩

theorem trimWaiting {s : State} {i : Slot} {l : Record} (there : s.record i = some l) (guard : Nat) (w : Record) :
    TableMove s (s.trimWaiting guard i w l) := by
  have trimmed : l.Alike (if headWinner w l then headTrim guard s.store.settings.setupMargin w l
      else tailTrim guard w l) := by
    split
    · exact headTrim_alike guard _ w l
    · exact tailTrim_alike guard w l
  have judged := record there trimmed
  exact ite (refl s) (ite (judged.trans (dropRecord _ _ _)) judged)

theorem trim {s : State} {i : Slot} {l : Record} (there : s.record i = some l) (guard : Nat) (iw : Slot) (w : Record) :
    TableMove s (s.trim guard i iw w l) := by
  have dropped := shadow s iw .droppedLate
  unfold State.trim
  split
  · exact refl s
  · exact ite (ite dropped (refl s)) (ite (refl s) (ite (setRecord_from there rfl rfl Iff.rfl rfl rfl) dropped))
  all_goals exact trimWaiting there guard w

theorem firstPass (guard : Nat) (new : Slot) (s : State) (e : Slot) : TableMove s (State.firstPass guard new s e) := by
  refine ite (refl s) ?_
  split
  · next there _ => exact ite (trim there guard e _) (refl s)
  · exact refl s

theorem secondPass (guard : Nat) (new : Slot) (s : State) (e : Slot) : TableMove s (State.secondPass guard new s e) := by
  refine ite (refl s) ?_
  split
  · next there => exact ite (trim there guard new _) (refl s)
  · exact refl s

theorem resolve (s : State) (new : Slot) : TableMove s (s.resolve new) :=
  (foldl (firstPass _ new) allSlots s).trans (foldl (secondPass _ new) allSlots _)

/-! ### The site time unit -/

theorem stepRecord (p q : Instant) (s : State) (i : Slot) : TableMove s (stepRecord p q s i) := by
  have deadline : TableMove s (stepDeadline p q s i) := by
    unfold stepDeadline
    split
    · exact ite (deadlineActs s i) (refl s)
    · exact refl s
  have keptEnd : ∀ u, TableMove u (stepKeptEnd p q u i) := fun u => by
    unfold stepKeptEnd
    split
    · exact ite (shadow u i _) (refl u)
    · exact refl u
  have ready : ∀ u, TableMove u (stepReady p q u i) := fun u => by
    unfold stepReady
    split
    · refine ite (ite (shadow u i _) ?_) (refl u)
      split
      · next due => exact decideKeyUp (State.keyUpReached_of_keyUpDue due.2)
      · exact refl u
    · exact refl u
  rw [stepRecord_eq]
  exact (deadline.trans (keptEnd _)).trans (ready _)

theorem stepClock (s : State) (second : Word32) : TableMove s (s.stepClock second) := by
  have pass : ∀ u : State, TableMove u (u.stepPass s.time.clock ⟨second, 0⟩) := fun u =>
    ite (refl u) ((foldl (stepRecord _ _) _ u).trans (foldl retireShadow _ _))
  have locked : TableMove s { s with time := { s.time with clock := ⟨second, 0⟩ } }.enterLocked := (enterLocked _).via rfl
  exact locked.trans ((ite (takeSwitch _) (refl _)).trans (pass _))

theorem todByte (s : State) (b : Byte) (e : Bool) : TableMove s (s.todByte b e) := by
  have counted : ∀ u : State, ∀ fix, TableMove u (u.qualityRun fix) := fun u fix =>
    ite (quiet rfl) (ite (ite ((setClockState _ _).via rfl) (quiet rfl)) (refl u))
  have judged : ∀ bytes faulty, TableMove s (s.todComplete bytes faulty) := fun bytes faulty =>
    ite ((counted _ _).via rfl) (quiet rfl)
  unfold State.todByte
  split
  · exact ite (quiet rfl) (refl s)
  · exact ite (quiet rfl) (judged _ _)

theorem referenceLost (s : State) : TableMove s s.referenceLost := by
  unfold State.referenceLost
  split
  · exact refl s
  · exact (setClockState _ _).via rfl
  · exact quiet rfl
  · exact (setClockState _ _).via rfl
  · exact refl s

theorem ppsEdge (s : State) : TableMove s s.ppsEdge := by
  have taken : TableMove s s.edgeTaken := by
    unfold State.edgeTaken
    cases s.time.tod <;> exact quiet rfl
  have started : ∀ t e, TableMove s.edgeTaken (s.edgeTaken.edgeStarts t e) := fun t e =>
    ite ((setClockState _ _).via rfl) (refl _)
  have counted : TableMove s.edgeTaken (s.edgeTaken.runCounted s.time) := quiet rfl
  unfold State.ppsEdge
  dsimp only
  split
  · exact taken.trans (started _ _)
  · rw [State.edgeAcquiring_eq]
    refine taken.trans ?_
    split
    · exact counted
    · exact ite counted (ite (counted.trans (enterLocked _)) (ite (counted.trans (stepClock _ _))
        (counted.trans (quiet rfl))))
  · exact taken.trans (ite (quiet rfl) (ite ((setClockState _ _).via rfl) (quiet rfl)))
  · exact taken.trans (started _ _)

/-- One beat: the timers of the links run, and their queues stand. -/
theorem beat (s : State) : TableMove s s.beat := by
  have run : ∀ (u : State) (l : Link) lo idle, TableMove u (u.setLink l ((u.link l).after lo idle)) := fun u l lo idle =>
    setLink_same rfl rfl
  refine ((run s .a (Config.loCycle s.free) (Config.lineIdle s.free false)).trans
    (run _ .b (Config.loCycle s.free) (Config.lineIdle s.free true))).trans (quiet ?_)
  rw [State.beat_eq]
  cases h : Config.disturbance s.free <;> simp only [State.held, h] <;> rfl

/-! ### The management engine -/

theorem placeReadFrame (s : State) (op : ReadOp) : TableMove s (s.placeReadFrame op) :=
  (placeReply s op.handed.link _).trans (quiet rfl)

theorem writeRows (s : State) (h : Handed) (t : TableId) (first : Nat) (rows : List (List Byte)) :
    TableMove s (s.writeRows h t first rows) := by
  have refused : ∀ res, TableMove s (s.answer h .write res []) := fun res => answer s h _ res []
  have replaced : ∀ p f res, TableMove s ((s.setProfile p f).answer h .write res []) := fun p f res =>
    (answer _ h _ res []).via rfl
  cases t with
  | settings =>
    simp only [State.writeRows]
    split
    · exact refused _
    · exact installSettings s h _ fun u => answer u h _ _ _
  | site p => exact replaced p _ _
  | modes p | zones p =>
    simp only [State.writeRows]
    split
    · exact refused _
    · exact replaced p _ _
  | history | counters | batches => exact refused _

theorem doRead (s : State) (h : Handed) (params : List Byte) : TableMove s (s.doRead h params) := by
  unfold State.doRead
  dsimp only
  split
  · exact answer s h _ _ _
  · split
    · exact answer s h _ _ _
    · refine ite (answer s h _ _ _) ?_
      split
      · exact ite (placeReadFrame s _) (quiet rfl)
      all_goals exact refl s

theorem doSwitch (s : State) (h : Handed) (params : List Byte) : TableMove s (s.doSwitch h params) := by
  have answered : ∀ res, TableMove s (s.answer h .switch res []) := fun res => answer s h _ res []
  unfold State.doSwitch
  dsimp only
  split
  · exact ite (answered _) (ite (answered _) ((setPending s _).trans (answer _ h _ _ _)))
  · exact answered _

theorem doRecall (s : State) (h : Handed) : TableMove s (s.doRecall h) := by
  refine ite (answer s h _ _ _) ?_
  split
  · exact (setNvFault s true).trans (answer _ h _ _ _)
  · exact (installSettings _ h _ fun u => answer u h _ _ _).via rfl

theorem abortRecord (s : State) (i : Slot) : TableMove s (s.abortRecord i) := by
  unfold State.abortRecord
  split
  · exact refl s
  · next r there =>
    split
    · exact refl s
    · exact ite (setRecord_from there rfl rfl Iff.rfl rfl rfl) (refl s)
    all_goals exact dropRecord s i _

theorem doAbort (s : State) (h : Handed) (params : List Byte) : TableMove s (s.doAbort h params) := by
  have settled : ∀ u, TableMove s u →
      TableMove s ((State.retireNext s (State.settleKeying s u)).answer h .abort .done []) := fun u aborted =>
    aborted.trans ((settleKeying s u).trans ((retireNext s _).trans (answer _ h _ _ _)))
  refine ite ?_ (ite (settled _ (foldl abortRecord allSlots s)) (answer s h _ _ _))
  split
  · exact answer s h _ _ _
  · exact settled _ (abortRecord s _)

theorem doSetLinkRate (s : State) (h : Handed) (params : List Byte) : TableMove s (s.doSetLinkRate h params) := by
  unfold State.doSetLinkRate
  dsimp only
  split
  · exact answer s h _ _ _
  · exact ite (trans (by exact (answer _ h _ _ _).via rfl) (rateFollows _ _ _ _ _)) (answer s h _ _ _)

theorem carryOut (s : State) (q : Request) (h : Handed) (params : List Byte) : TableMove s (s.carryOut q h params) := by
  match q with
  | .status => exact answer s h _ _ _
  | .read => exact doRead s h params
  | .write =>
    simp only [State.carryOut, State.doWrite]
    split
    · exact answer s h _ _ _
    · exact writeRows s h _ _ _
  | .digest =>
    simp only [State.carryOut, State.doDigest]
    split <;> exact answer s h _ _ _
  | .switch => exact doSwitch s h params
  | .cancelSwitch =>
    exact ite (answer s h _ _ _) (ite ((setPending s _).trans (answer _ h _ _ _)) (answer s h _ _ _))
  | .store => exact quiet rfl
  | .recall => exact doRecall s h
  | .abort => exact doAbort s h params
  | .ackAlarms => exact (answer _ h _ _ _).via rfl
  | .clearCounters => exact (answer _ h _ _ _).via rfl
  | .setLinkRate => exact doSetLinkRate s h params
  | .restart => exact (answer s h .restart .done []).trans (quiet rfl)

theorem storeEnded (s : State) (op : StoreOp) (verified : Bool) : TableMove s (s.storeEnded op verified) :=
  ite ((setNvFault _ _).via rfl) ((setNvFault _ _).via rfl)

theorem takeRequest (s : State) (code : Byte) (h : Handed) (params : List Byte) :
    TableMove s (s.takeRequest code h params) := by
  refine (bump s (.mgmt .requestsTaken)).trans ?_
  unfold State.takeRequest
  dsimp only
  split
  · unfold State.misunderstood
    split
    · exact placeReply _ _ _
    all_goals exact refl _
  · refine ite ?_ (ite (carryOut _ _ h params) (answer _ h _ _ _))
    unfold State.turnAway
    split
    · exact (bump _ _).trans (answer _ h _ _ _)
    all_goals exact bump _ _

end TableMove

end Sys2Proof.Machine
end

section
/-! SUPPORT. Admission and the commands as moves of the table and the queues: the resolver leaves the parts of every record, so the
creating part is absent when it is placed; and a step is such a move (R66, R88, R89, R91, R124). -/

namespace Sys2Proof.Machine

/-! ### The resolver leaves the parts present -/

/-- Every slot holds a record with the parts it had, or stays FREE. -/
def PartsStand (s t : State) : Prop := ∀ i, (t.record i).map (·.parts) = (s.record i).map (·.parts)

namespace PartsStand

theorem refl (s : State) : PartsStand s s := fun _ => rfl

theorem trans {s u t : State} (h : PartsStand s u) (h' : PartsStand u t) : PartsStand s t := fun i => (h' i).trans (h i)

theorem ite {s t u : State} {p : Prop} [Decidable p] (ht : PartsStand s t) (hu : PartsStand s u) :
    PartsStand s (if p then t else u) := by
  split
  · exact ht
  · exact hu

theorem foldl {α : Type} {f : State → α → State} (hf : ∀ s a, PartsStand s (f s a)) (xs : List α) (s : State) :
    PartsStand s (xs.foldl f s) := by
  induction xs generalizing s with
  | nil => exact refl s
  | cons x xs ih => exact (hf s x).trans (ih (f s x))

theorem setRecord {s : State} {i : Slot} {q r : Record} (there : s.record i = some q) (parts : r.parts = q.parts) :
    PartsStand s (s.setRecord i r) := by
  intro j
  rw [State.record_setRecord]
  split
  · next e => rw [e, there, Option.map_some, Option.map_some, parts]
  · rfl

theorem becomeShadow (s : State) (i : Slot) (o : BatchOutcome) : PartsStand s (s.becomeShadow i o) := by
  intro j
  rw [State.record_becomeShadow]
  split
  · next e =>
    rw [e, Option.map_map]
    congr 1
    funext r
    exact (apply_ite Record.parts _ _ _).trans (ite_self _)
  · rfl

theorem dropRecord (s : State) (i : Slot) (o : BatchOutcome) : PartsStand s (s.dropRecord i o) := fun j => by
  rw [State.record_dropRecord]
  exact becomeShadow s i o j

theorem trim {s : State} {i : Slot} {l : Record} (there : s.record i = some l) (guard : Nat) (iw : Slot) (w : Record) :
    PartsStand s (s.trim guard i iw w l) := by
  have dropped := becomeShadow s iw .droppedLate
  have judged : ∀ l' : Record, l'.parts = l.parts → PartsStand s
      (if droppedByTrim l' then (s.setRecord i l').dropRecord i .droppedConflict else s.setRecord i l') := fun l' parts =>
    ite ((setRecord there parts).trans (dropRecord _ _ _)) (setRecord there parts)
  have trimmed : (if headWinner w l then headTrim guard s.store.settings.setupMargin w l
      else tailTrim guard w l).parts = l.parts := by
    unfold headTrim tailTrim
    dsimp only
    split <;> split <;> rfl
  unfold State.trim
  split
  · exact refl s
  · exact ite (ite dropped (refl s)) (ite (refl s) (ite (setRecord there rfl) dropped))
  all_goals exact ite (refl s) (judged _ trimmed)

theorem resolve (s : State) (new : Slot) : PartsStand s (s.resolve new) := by
  refine (foldl (fun u e => ?_) allSlots s).trans (foldl (fun u e => ?_) allSlots _)
  · refine ite (refl u) ?_
    split
    · next there _ => exact ite (trim there _ e _) (refl u)
    · exact refl u
  · refine ite (refl u) ?_
    split
    · next there => exact ite (trim there _ new _) (refl u)
    · exact refl u

end PartsStand

/-! ### Admission -/

namespace TableMove

/-- A part's index joins those present (R86). -/
theorem takeToShadow {s : State} {i : Slot} {r : Record} (there : s.record i = some r) (p : RawPart) (l : Link) :
    TableMove s (s.takeToShadow i r p l) := by
  have grown : ∀ n, (r.accept p.index l).parts.getLsbD n = false → r.parts.getLsbD n = false := fun n h => by
    simp only [Record.accept, BitVec.getLsbD_or, Bool.or_eq_false_iff] at h
    exact h.1
  have taken : TableMove s (s.setRecord i (r.accept p.index l)) := record there ⟨rfl, rfl, Iff.rfl, rfl, grown⟩
  exact taken.trans (quiet rfl)

theorem storePart {s : State} {i : Slot} {r : Record} {p : RawPart} (there : s.record i = some r) (live : r.state ≠ .shadow)
    (inside : p.index < 16) (absent : r.parts.getLsbD p.index = false) (l : Link) :
    TableMove s (s.storePart i r p l) := by
  cases taken : s.symbols.allocate p.share p.symbols with
  | none =>
    rw [s.storePart_refused i l taken]
    exact quiet rfl
  | some pair =>
    obtain ⟨chain, symbols⟩ := pair
    rw [s.storePart_stored i l inside taken]
    exact trans (by exact store there live inside absent taken) ((bump _ _).trans (completeRecord _ i))

theorem knownBatch {s : State} {i : Slot} {r : Record} {p : RawPart} (there : s.record i = some r) (inside : p.index < 16)
    (l : Link) : TableMove s (s.knownBatch i r p l) := by
  have discarded : ∀ c, TableMove s (s.discard c) := fun c => bump s _
  refine ite (discarded _) ?_
  split
  · exact discarded _
  · next absent =>
    split
    · exact takeToShadow there p l
    · next assembling => exact storePart there (by simp [assembling]) inside (by simpa using absent) l
    all_goals exact discarded _

/-- The initial state of a record is no matter of its chains, its parts or its dependent mark (R90). -/
theorem initialState_keeps (zone : ZoneMode) (now : Instant) (r : Record) :
    (initialState zone now r).chains = r.chains ∧ (initialState zone now r).parts = r.parts
      ∧ (initialState zone now r).dependent = r.dependent := by
  unfold initialState
  repeat' split
  all_goals exact ⟨rfl, rfl, rfl⟩

/-- A new record carries an outcome exactly when it is SHADOW from the start (R90). -/
theorem outcome_initialState (zone : ZoneMode) (now : Instant) {r : Record} (state : r.state = .assembling)
    (shadow : r.shadow = none) :
    (initialState zone now r).shadow.isSome = true ↔ (initialState zone now r).state = .shadow := by
  unfold initialState
  repeat' split
  all_goals simp [state, shadow]

/-- A record depends on the pending switch only when there is one (R27). -/
theorem dependent_profileFor {s : State} {tagSec : Word32} (h : (s.profileFor tagSec).2 = true) : s.store.pending ≠ none := by
  intro none_pending
  simp [State.profileFor_of_none none_pending] at h

theorem placeFirstPart {s : State} {i : Slot} {p : RawPart} (inside : p.index < 16)
    (empty : ∀ q, s.record i = some q → q.parts = 0) (l : Link) : TableMove s (s.placeFirstPart i p l) := by
  unfold State.placeFirstPart
  split
  · exact refl s
  · next q there =>
    split
    · exact takeToShadow there p l
    · next live => exact storePart there live inside (by rw [empty q there]; exact BitVec.getLsbD_zero) l

/-- The resolver leaves a new record without parts, so its creating part is absent (R89). -/
theorem createRecord {s : State} {i : Slot} {r : Record} {p : RawPart} (created : TableMove s (s.setRecord i r))
    (parts : r.parts = 0) (inside : p.index < 16) (l : Link) : TableMove s (s.createRecord i r p l) := by
  refine created.trans ((resolve _ i).trans (placeFirstPart inside (fun q there => ?_) l))
  have stands := PartsStand.resolve (s.setRecord i r) i i
  rw [there, State.record_setRecord_same, Option.map_some, Option.map_some, parts] at stands
  exact Option.some.inj stands

theorem newBatch {s : State} {p : RawPart} (inside : p.index < 16) (l : Link) : TableMove s (s.newBatch p l) := by
  refine ite (bump s _) (ite (bump s _) (ite (bump s _) ?_))
  split
  · exact quiet rfl
  · next i slot =>
    have vacant : s.record i = none := by simpa using List.find?_some slot
    obtain ⟨chains, parts, dependent⟩ :=
      initialState_keeps (s.zoneFor p).mode.acts s.time.clock (s.newRecord p (s.profileFor p.tagSec))
    exact createRecord (create vacant chains (outcome_initialState _ _ rfl rfl)
      fun h => dependent_profileFor (dependent.symm.trans h)) parts inside l

theorem takePart (s : State) (l : Link) (body : List Byte) : TableMove s (s.takePart l body) := by
  have discarded : ∀ c, TableMove s (s.discard c) := fun c => bump s _
  refine ite (discarded _) ?_
  split
  · exact discarded _
  · next consistent =>
    obtain ⟨-, ⟨-, count⟩, index, -⟩ := (structureOk_iff body).mp (by simpa using consistent)
    have inside : (rawPart body).index < 16 := by omega
    refine ite (discarded _) (ite (discarded _) ?_)
    split
    · split
      · next there => exact (knownBatch there inside l).trans ((settleKeying s _).trans (retireNext s _))
      · exact refl s
    · exact (newBatch inside l).trans ((settleKeying s _).trans (quiet rfl))

theorem takeFrame (s : State) (l : Link) (body : List Byte) : TableMove s (s.takeFrame l body) := by
  refine ite (takePart s l body) (ite (ite (quiet rfl) ?_) (quiet rfl))
  dsimp only
  split
  · exact quiet rfl
  · exact takeRequest s _ _ _

/-- The frame that is taken leaves its buffer (R66). -/
theorem arbiterChooses (s : State) : TableMove s s.arbiterChooses := by
  refine ite (refl s) ?_
  split
  · exact refl s
  · next l run owner _ =>
    dsimp only
    split
    · exact refl s
    · next body rest frames =>
      have left : TableMove s (s.setLink l { s.link l with buffers := rest }) :=
        link ⟨Or.inr (by simp [frames]), Or.inr le_rfl⟩
      exact left.trans ((takeFrame _ l body).via rfl)

/-- A good frame enters a buffer that is empty (R63, R66). -/
theorem endFrame (s : State) (l : Link) (body : List Byte) (first second : Byte) :
    TableMove s (s.endFrame l body first second) := by
  have ended : ∀ d, TableMove s (s.endAttempt l d) := fun d => endAttempt s l d
  refine ite (ended _) ?_
  split
  · exact ended _
  · next room =>
    have same : ((s.endAttempt l .good).link l).buffers = (s.link l).buffers := by simp [State.endAttempt]
    have taken : TableMove (s.endAttempt l .good) ((s.endAttempt l .good).setLink l
        { (s.endAttempt l .good).link l with
          buffers := ((s.endAttempt l .good).link l).buffers ++ [body], up := true, silence := 0 }.beginReply) := by
      refine link ⟨Or.inl ?_, Or.inr (by rw [CarriageLink.beginReply_replies])⟩
      rw [CarriageLink.beginReply_buffers, List.length_append, same, List.length_singleton]
      omega
    exact (ended .good).trans (taken.trans (arbiterChooses _))

theorem receiveByte (s : State) (l : Link) (b : Byte) : TableMove s (s.receiveByte l b) := by
  have moved : ∀ d, TableMove s (s.deframe l d) := fun d => deframe s l d
  have ended : ∀ d, TableMove s (s.endAttempt l d) := fun d => endAttempt s l d
  unfold State.receiveByte
  split
  · exact ite (moved _) (refl s)
  · exact moved _
  · exact ite (ended _) (ite (ended _) (moved _))
  · exact ite (moved _) (moved _)
  · exact moved _
  · exact endFrame s l _ _ b

/-! ### The commands -/

theorem coldStart (s : State) : TableMove s s.coldStart :=
  restart rfl (by simp only [State.coldStart]) rfl fun l => by
    cases l <;> exact ⟨Or.inl (Nat.zero_le _), Or.inl (Nat.zero_le _)⟩

theorem warmRestart (s : State) : TableMove s s.warmRestart :=
  restart rfl (by simp only [State.warmRestart]) rfl fun l => by
    cases l <;> exact ⟨Or.inl (Nat.zero_le _), Or.inr le_rfl⟩

theorem exec {c : Instr} {s t : State} (h : Machine.exec c s = .next t) : TableMove s t := by
  match c with
  | .coldStart => cases h; exact coldStart s
  | .refLost => cases h; exact ite ((referenceLost _).via rfl) (refl s)
  | .refBack => cases h; exact ite (quiet rfl) (refl s)
  | .ppsEdge => cases h; exact ppsEdge s
  | .ppsMissing => cases h; exact ite ((referenceLost _).via rfl) (refl s)
  | .todLeadByte e => cases h; exact todByte s _ e
  | .todMessage second quality check faults =>
    exact todMessage_keeps (P := TableMove s) (fun u b e hu => hu.trans (todByte u b e)) (refl s) h
  | .secondBoundary => cases h; exact ite (quiet rfl) (refl s)
  | .txrdyFall => cases h; exact ite (ite (quiet rfl) (quiet rfl)) (refl s)
  | .switchEvent => cases h; exact ite (takeSwitch s) (refl s)
  | .leadByte l => cases h; exact receiveByte s l _
  | .frameByte l b | .lengthEnd l b | .frameEnd l b => cases h; exact receiveByte s l b
  | .badChar l =>
    cases h
    split
    · exact refl s
    · exact endAttempt s l _
  | .gap l => cases h; exact ite (endAttempt s l _) (refl s)
  | .silenceTimeout l => cases h; exact silenceCheck s l
  | .admissionFree => cases h; exact (arbiterChooses _).via rfl
  | .deadline i => cases h; exact (ite ((deadlineActs s i).trans (settleKeying s _)) (refl s)).trans (retireNext s _)
  | .keptEndWhileLate i | .missedLaunch i =>
    cases h
    exact (ite ((shadow s i _).trans (settleKeying s _)) (refl s)).trans (retireNext s _)
  | .keyUp i => cases h; exact (decideWhenDue s i).trans (retireNext s _)
  | .retirement i => cases h; exact ite (retireShadow s i) (refl s)
  | .launch =>
    cases h
    split
    · next i due =>
      obtain ⟨_, _, r, there, keying, _⟩ := (State.launchDue_eq_some_iff s i).mp due
      exact startSymbols there (by simp [keying])
    · exact refl s
  | .pacerCarry => cases h; exact (ite (carry s) (refl s)).trans (retireNext s _)
  | .blockRead =>
    cases h
    refine trans ?_ (retireNext s _)
    split
    · exact refl s
    · next i r b wanted =>
      obtain ⟨_, there, _⟩ := (State.blockWanted_eq_some_iff s i r b).mp wanted
      exact ite (readOnAir there b) (readBeforeLaunch s i r b)
  | .tailEnd => cases h; exact (ite ((enterIdle s).trans (decideIfDue _)) (refl s)).trans (retireNext s _)
  | .status h' params | .read h' params | .write h' params | .digest h' params | .switch h' params
  | .cancelSwitch h' params | .store h' params | .recall h' params | .abort h' params | .ackAlarms h' params
  | .clearCounters h' params | .setLinkRate h' params | .restart h' params =>
    cases h
    exact takeRequest s _ h' params
  | .notUnderstood h' code params => cases h; exact takeRequest s code h' params
  | .storeComplete verified =>
    cases h
    split
    · exact (storeEnded s _ verified).trans (answer _ _ _ _ _)
    · exact refl s
  | .readFramePlaced =>
    cases h
    split
    · exact ite (placeReadFrame s _) (refl s)
    · exact refl s
  | .readStall => cases h; exact ite (quiet rfl) (refl s)
  | .replySent l => cases h; exact ite (replyGone s l) (refl s)
  | .warmRestart => cases h; exact ite (ite (quiet rfl) (warmRestart s)) (refl s)

/-- A step is a move of the table and the queues. -/
theorem step {s t : State} (h : Machine.step s = .next t) : TableMove s t := by
  rcases step_cases h with rfl | ⟨c, p, f, run, -⟩
  · exact beat s
  · exact (exec run).via rfl

end TableMove

end Sys2Proof.Machine
end

section
/-! SUPPORT. The laws that every move of the table and the queues keeps: those that speak of one record at a time, the one place of
each block, and the places of the buffers (R28, R66, R70, R100, R102, R107, R114, R168). -/

namespace Sys2Proof.Machine

theorem forall_records_iff {s : State} {P : Record → Prop} : (∀ r ∈ s.records, P r) ↔ ∀ i r, s.record i = some r → P r := by
  simp only [mem_records_iff]
  exact ⟨fun h i r there => h r ⟨i, there⟩, fun h r ⟨i, there⟩ => h i r there⟩

theorem get_replicate {α : Type} {n : Nat} (a : α) (i : Fin n) : (Vector.replicate n a).get i = a := by
  simp [Vector.get]

theorem Record.blocks_of_empty {r : Record} (h : r.chains = Vector.replicate 16 []) : r.blocks = [] := by
  simp [Record.blocks, h]

/-! ### Laws of one record -/

/-- What makes a law of single records, beside the pending switch, one that every move keeps. -/
structure RecordLaw (P : Option PendingSwitch → Record → Prop) : Prop where
  alike : ∀ {w q r}, Record.Alike q r → P w q → P w r
  shadow : ∀ {w r} (o : BatchOutcome), r.state ≠ .shadow → P w r →
    P w { r.unchained with state := .shadow, shadow := some o }
  create : ∀ {w} {r : Record}, r.chains = Vector.replicate 16 [] → (r.shadow.isSome = true ↔ r.state = .shadow) →
    (r.dependent = true → w ≠ none) → P w r
  store : ∀ {w r p l chain} (inside : p.index < 16), r.state ≠ .shadow → P w r → P w (r.holding p l inside chain)
  switch : ∀ {v w r}, P v r → P w { r with dependent := false }

/-- A state all of whose records obey a law. -/
def State.Obeys (s : State) (P : Option PendingSwitch → Record → Prop) : Prop :=
  ∀ i r, s.record i = some r → P s.store.pending r

namespace RecordLaw

variable {P : Option PendingSwitch → Record → Prop}

/-- A record that obeys the law put in a slot. -/
theorem setRecord {s : State} (hs : s.Obeys P) (i : Slot) {r : Record} (hr : P s.store.pending r) :
    (s.setRecord i r).Obeys P := by
  intro j q there
  rw [State.record_setRecord] at there
  split at there
  · cases there
    exact hr
  · exact hs j q there

theorem becomeShadow (law : RecordLaw P) {s : State} (hs : s.Obeys P) (i : Slot) (o : BatchOutcome) :
    (s.becomeShadow i o).Obeys P := by
  rcases s.becomeShadow_cases i o with ⟨-, e⟩ | ⟨r, there, live, e⟩
  · rwa [e]
  · rw [e]
    exact setRecord (s := s.releaseBlocks r) hs i (law.shadow o live (hs i r there))

theorem of_move (law : RecordLaw P) {s t : State} (move : TableMove s t) (hs : s.Obeys P) : t.Obeys P := by
  induction move with
  | @quiet s t held =>
    simp only [State.held, Prod.mk.injEq] at held
    obtain ⟨table, -, switch, -⟩ := held
    intro i r there
    rw [switch]
    exact hs i r ((State.record_of_table t s i table).symm.trans there)
  | @link s l c =>
    intro i r there
    rw [State.setLink_record] at there
    rw [State.setLink_store]
    exact hs i r there
  | @record s i q r there alike => exact setRecord hs i (law.alike alike (hs i q there))
  | shadow s i o => exact law.becomeShadow hs i o
  | @retire s i r there o =>
    intro j q left
    rw [State.record_retire] at left
    split at left
    · cases left
    · exact hs j q left
  | @create s i r vacant chains outcome dependent => exact setRecord hs i (law.create chains outcome dependent)
  | @store s i r p chain symbols l there live inside =>
    exact setRecord (s := { s with symbols := symbols }) hs i (law.store inside live (hs i r there))
  | @switch s t held =>
    simp only [State.held, Prod.mk.injEq] at held
    obtain ⟨table, -⟩ := held
    intro i r there
    rw [State.record_of_table t s.clearDependents i table, State.record_clearDependents, Option.map_eq_some_iff] at there
    obtain ⟨q, was, rfl⟩ := there
    exact law.switch (hs i q was)
  | @restart s t table =>
    intro i r there
    rw [State.record_of_empty table i] at there
    cases there
  | trans _ _ ih ih' => exact ih' (ih hs)

end RecordLaw

/-- An absent part holds no chain (R100). -/
theorem recordLaw_absent :
    RecordLaw fun _ r => ∀ i : Fin 16, r.parts.getLsbD i.val = false → r.chains.get i = [] where
  alike same h i absent := by
    rw [same.chains]
    exact h i (same.parts i.val absent)
  shadow o live h i absent := get_replicate [] i
  create chains _ _ i _ := by rw [chains, get_replicate]
  store {w r p l chain} inside live h i absent := by
    simp only [Record.holding, Record.accept, BitVec.getLsbD_or, Bool.or_eq_false_iff] at absent
    obtain ⟨before, other⟩ := absent
    have differs : p.index ≠ i.val := by
      rintro e
      simp [e] at other
    have stays : (r.chains.set p.index chain inside).get i = r.chains.get i := by
      simp only [Vector.get, Fin.cast, Vector.getElem_toArray, Vector.getElem_set, if_neg differs]
    exact stays.trans (h i before)
  switch h := h

/-- A SHADOW record carries an outcome and holds no blocks, and no other record carries one (R107, R114). -/
theorem recordLaw_shadow : RecordLaw fun _ r =>
    (r.shadow.isSome = true ↔ r.state = .shadow) ∧ (r.state = .shadow → r.chains = Vector.replicate 16 []) where
  alike same h := by
    rw [same.shadow, same.chains, same.state]
    exact h
  shadow o live h := by simp [Record.unchained]
  create chains outcome _ := ⟨outcome, fun _ => chains⟩
  store inside live h := ⟨h.1, fun e => absurd e live⟩
  switch h := h

/-- A record depends on a pending switch only while there is one (R28). -/
theorem recordLaw_dependent : RecordLaw fun w r => w = none → r.dependent = false where
  alike same h none_pending := same.dependent.trans (h none_pending)
  shadow _ _ h := h
  create _ _ dependent none_pending := Bool.eq_false_iff.mpr fun e => dependent e none_pending
  store _ _ h := h
  switch _ _ := rfl

theorem shadowSound_iff (s : State) : ShadowSound s ↔ s.Obeys fun _ r =>
    (r.shadow.isSome = true ↔ r.state = .shadow) ∧ (r.state = .shadow → r.chains = Vector.replicate 16 []) := by
  refine Iff.trans ?_ forall_records_iff
  exact ⟨fun ⟨outcome, blocks⟩ r held => ⟨outcome r held, blocks r held⟩,
    fun h => ⟨fun r held => (h r held).1, fun r held => (h r held).2⟩⟩

theorem dependentsNeedSwitch_iff (s : State) :
    DependentsNeedSwitch s ↔ s.Obeys fun w r => w = none → r.dependent = false := by
  refine Iff.trans ?_ forall_records_iff
  exact ⟨fun h r held none_pending => h none_pending r held, fun h none_pending r held => h r held none_pending⟩

/-! ### The blocks held in each slot (R102) -/

/-- The blocks of the record in a slot; none of a FREE slot. -/
def State.blocksAt (s : State) (i : Slot) : List Block := ((s.record i).map Record.blocks).getD []

/-- The blocks held in the slots other than one. -/
def State.blocksBut (s : State) (i : Slot) : List Block := (allSlots.erase i).flatMap s.blocksAt

theorem State.blocksAt_of_record {s : State} {i : Slot} {r : Record} (there : s.record i = some r) :
    s.blocksAt i = r.blocks := by simp [State.blocksAt, there]

theorem State.blocksAt_of_vacant {s : State} {i : Slot} (vacant : s.record i = none) : s.blocksAt i = [] := by
  simp [State.blocksAt, vacant]

theorem State.heldBlocks_eq (s : State) : s.heldBlocks = allSlots.flatMap s.blocksAt := by
  rw [State.heldBlocks, s.records_eq]
  change _ = (List.finRange 32).flatMap s.blocksAt
  induction List.finRange 32 with
  | nil => rfl
  | cons i slots ih =>
    rw [List.flatMap_cons, ← ih, State.blocksAt, List.filterMap_cons]
    cases s.record i <;> rfl

/-- The blocks held are those of one slot and those of the others. -/
theorem State.heldBlocks_perm (s : State) (i : Slot) : s.heldBlocks.Perm (s.blocksAt i ++ s.blocksBut i) := by
  rw [s.heldBlocks_eq]
  exact (List.perm_cons_erase (mem_allSlots i)).flatMap_right s.blocksAt

/-- A move that changes one slot alone, and keeps the free list and the blocks of that slot together, keeps every block in
its one place. -/
theorem blocks_perm_of_slot {s t : State} (i : Slot) (others : ∀ j, j ≠ i → t.record j = s.record j)
    (here : (t.symbols.free ++ t.blocksAt i).Perm (s.symbols.free ++ s.blocksAt i)) :
    (t.symbols.free ++ t.heldBlocks).Perm (s.symbols.free ++ s.heldBlocks) := by
  have but : t.blocksBut i = s.blocksBut i := List.flatMap_congr fun j there => by
    have other := ((List.nodup_finRange Config.slots).mem_erase_iff.mp there).1
    rw [State.blocksAt, others j other, State.blocksAt]
  have t_split := (t.heldBlocks_perm i).append_left t.symbols.free
  have s_split := (s.heldBlocks_perm i).append_left s.symbols.free
  rw [← List.append_assoc] at t_split s_split
  rw [but] at t_split
  exact t_split.trans ((here.append_right _).trans s_split.symm)

/-- A chain put where there was none joins the blocks of its list of chains. -/
theorem flatten_set_perm {α : Type} {xs : List (List α)} {n : Nat} (inside : n < xs.length) (empty : xs[n] = []) (c : List α) :
    (xs.set n c).flatten.Perm (c ++ xs.flatten) := by
  have split : xs.flatten = (xs.take n).flatten ++ (xs.drop (n + 1)).flatten := by
    conv_lhs => rw [← List.take_append_drop n xs, List.drop_eq_getElem_cons inside, empty]
    simp
  rw [List.set_eq_take_append_cons_drop, if_pos inside, split]
  simpa using List.perm_append_comm_assoc (xs.take n).flatten c (xs.drop (n + 1)).flatten

theorem Record.blocks_holding_perm {r : Record} {p : RawPart} (inside : p.index < 16)
    (empty : r.chains.get ⟨p.index, inside⟩ = []) (l : Link) (chain : List Block) :
    (r.holding p l inside chain).blocks.Perm (chain ++ r.blocks) := by
  have same : (r.holding p l inside chain).blocks = (r.chains.toList.set p.index chain).flatten := by
    simp [Record.blocks, Record.holding, Vector.toList_set]
  rw [same]
  exact flatten_set_perm (by simpa using inside) (by simpa [Vector.get] using empty) chain

/-- An allocation takes its chain off the head of the free list (R99). -/
theorem SymbolStore.free_of_allocate {t u : SymbolStore} {p : Nat} {bytes : List Byte} {chain : List Block}
    (taken : t.allocate p bytes = some (chain, u)) : t.free = chain ++ u.free := by
  rcases t.allocate_cases p bytes with ⟨-, e⟩ | ⟨-, e⟩
  · cases e.symm.trans taken
  · cases e.symm.trans taken
    rw [SymbolStore.writeChain_free, List.take_append_drop]

theorem State.record_becomeShadow_live {s : State} {i : Slot} {r : Record} (there : s.record i = some r)
    (live : r.state ≠ .shadow) (o : BatchOutcome) :
    (s.becomeShadow i o).record i = some { r.unchained with state := .shadow, shadow := some o } := by
  rw [State.becomeShadow_eq there live, State.record_setRecord_same]

/-- Every block stays in its one place: a move hands blocks from the free list to a chain or back (R99, R101, R102). -/
theorem TableMove.blocks_perm {s t : State} (move : TableMove s t)
    (absent : s.Obeys fun _ r => ∀ i : Fin 16, r.parts.getLsbD i.val = false → r.chains.get i = [])
    (once : (s.symbols.free ++ s.heldBlocks).Perm fullFreeList) : (t.symbols.free ++ t.heldBlocks).Perm fullFreeList := by
  induction move with
  | @quiet s t held =>
    simp only [State.held, Prod.mk.injEq] at held
    obtain ⟨table, free, -⟩ := held
    rwa [State.heldBlocks, State.records, free, table]
  | @link s l c => rwa [State.heldBlocks, State.records, State.setLink_symbols, State.setLink_table]
  | @record s i q r there alike =>
    refine (blocks_perm_of_slot i (fun j other => State.record_setRecord_other s i j r other) ?_).trans once
    rw [State.blocksAt_of_record (State.record_setRecord_same s i r), State.blocksAt_of_record there, Record.blocks,
      alike.chains]
    exact .refl _
  | shadow s i o =>
    rcases s.becomeShadow_cases i o with ⟨-, e⟩ | ⟨r, there, live, e⟩
    · rwa [e]
    · rw [e]
      refine (blocks_perm_of_slot (s := s) i
        (fun j other => State.record_setRecord_other (s.releaseBlocks r) i j _ other) ?_).trans once
      rw [State.blocksAt_of_record (State.record_setRecord_same _ i _), State.blocksAt_of_record there,
        Record.blocks_of_empty rfl, List.append_nil]
      exact .refl _
  | @retire s i r there o =>
    refine (blocks_perm_of_slot i (fun j other => (s.record_retire i j r o).trans (if_neg other)) ?_).trans once
    rw [State.blocksAt_of_vacant ((s.record_retire i i r o).trans (if_pos rfl)), State.blocksAt_of_record there,
      List.append_nil]
    exact .refl _
  | @create s i r vacant chains =>
    refine (blocks_perm_of_slot i (fun j other => State.record_setRecord_other s i j r other) ?_).trans once
    rw [State.blocksAt_of_record (State.record_setRecord_same s i r), State.blocksAt_of_vacant vacant,
      Record.blocks_of_empty chains]
    exact .refl _
  | @store s i r p chain symbols l there live inside lacking taken =>
    refine (blocks_perm_of_slot (s := s) i
      (fun j other => State.record_setRecord_other { s with symbols := symbols } i j _ other) ?_).trans once
    rw [State.blocksAt_of_record (State.record_setRecord_same _ i _), State.blocksAt_of_record there,
      SymbolStore.free_of_allocate taken]
    refine ((Record.blocks_holding_perm inside (absent i r there _ lacking) l chain).append_left symbols.free).trans ?_
    rw [← List.append_assoc]
    exact List.perm_append_comm.append_right _
  | @switch s t held =>
    simp only [State.held, Prod.mk.injEq] at held
    obtain ⟨table, free, -⟩ := held
    have same : t.heldBlocks = s.heldBlocks := by
      rw [t.heldBlocks_eq, s.heldBlocks_eq]
      refine List.flatMap_congr fun i _ => ?_
      rw [State.blocksAt, State.record_of_table t s.clearDependents i table, State.record_clearDependents, Option.map_map]
      rfl
    rw [same, free]
    exact once
  | @restart s t table free =>
    have none_held : t.heldBlocks = [] := by
      rw [t.heldBlocks_eq]
      exact List.flatMap_eq_nil_iff.mpr fun i _ => State.blocksAt_of_vacant (State.record_of_empty table i)
    rw [none_held, free, List.append_nil]
  | trans first _ ih ih' => exact ih' (recordLaw_absent.of_move first absent) (ih absent once)

theorem BlocksConserved.of_move {s t : State} (hs : BlocksConserved s) (move : TableMove s t) : BlocksConserved t :=
  have absent := forall_records_iff.mp hs.absent
  ⟨move.blocks_perm absent hs.once, forall_records_iff.mpr (recordLaw_absent.of_move move absent)⟩

/-! ### The places of the buffers (R66, R70, R168) -/

theorem length_appendHistory {h : List HistoryEntry} (bounded : h.length ≤ Config.historySize) (e : HistoryEntry) :
    (appendHistory h e).length ≤ Config.historySize := by
  change h.length ≤ 64 at bounded
  change (appendHistory h e).length ≤ 64
  rw [appendHistory_eq, List.length_append, List.length_singleton]
  split
  · omega
  · rw [List.length_drop]
    omega

namespace BuffersBounded

/-- Links that keep within their places, and a history that does. -/
theorem of_links {s t : State} (hs : BuffersBounded s) (links : ∀ l, (s.link l).Within (t.link l))
    (history : t.history.length ≤ Config.historySize) : BuffersBounded t where
  frames l := (links l).frames.elim id fun h => h.trans (hs.frames l)
  replies l := (links l).replies.elim id fun h => h.trans (hs.replies l)
  history := history

/-- A move that leaves the links and the history. -/
theorem of_same {s t : State} (hs : BuffersBounded s) (linkA : t.linkA = s.linkA) (linkB : t.linkB = s.linkB)
    (history : t.history = s.history) : BuffersBounded t := by
  refine hs.of_links (fun l => ?_) (history ▸ hs.history)
  cases l
  · simp only [State.link, linkA, CarriageLink.Within.refl]
  · simp only [State.link, linkB, CarriageLink.Within.refl]

theorem of_move {s t : State} (move : TableMove s t) (hs : BuffersBounded s) : BuffersBounded t := by
  induction move with
  | quiet held =>
    simp only [State.held, Prod.mk.injEq] at held
    obtain ⟨-, -, -, history, linkA, linkB⟩ := held
    exact hs.of_same linkA linkB history
  | @link s l c within =>
    refine hs.of_links (fun k => ?_) (by rw [State.setLink_history]; exact hs.history)
    by_cases e : k = l
    · subst e
      rwa [State.link_setLink_same]
    · rw [State.link_setLink_other s l k c e]
      exact .refl _
  | record | create | store => exact hs.of_same rfl rfl rfl
  | shadow s i o => exact hs.of_same (by simp) (by simp) (by simp)
  | @retire s i r there o => exact hs.of_links (fun l => by cases l <;> exact .refl _) (length_appendHistory hs.history _)
  | switch held =>
    simp only [State.held, Prod.mk.injEq] at held
    obtain ⟨-, -, -, history, linkA, linkB⟩ := held
    exact hs.of_same linkA linkB history
  | restart _ _ history links => exact hs.of_links links (by simp [history])
  | trans _ _ ih ih' => exact ih' (ih hs)

end BuffersBounded

/-- Settles O9: each law is one of single records, or one of the queues, and a step is a move that keeps them. -/
theorem everyStepKeepsShadowDependentsAndBuffers : Obligations.EveryStepKeepsShadowDependentsAndBuffers := by
  unfold Obligations.EveryStepKeepsShadowDependentsAndBuffers
  refine ⟨fun s t hs h => ?_, fun s t hs h => ?_, fun s t hs h => hs.of_move (TableMove.step h)⟩
  · exact (shadowSound_iff t).mpr (recordLaw_shadow.of_move (TableMove.step h) ((shadowSound_iff s).mp hs))
  · exact (dependentsNeedSwitch_iff t).mpr
      (recordLaw_dependent.of_move (TableMove.step h) ((dependentsNeedSwitch_iff s).mp hs))

/-! ### What STATUS reports (R102, R180) -/

/-- The free count stands at bytes 28 and 29 of STATUS. -/
theorem State.natAt_statusData_free {s : State} (few : s.symbols.free.length < 65536) :
    natAt s.statusData 28 2 = s.symbols.free.length := by
  have field : fieldAt s.statusData 28 2 = bytesOf 2 s.symbols.free.length := by
    cases pending : s.store.pending <;> simp [State.statusData, instantBytes, pending]
  rw [natAt, field, unsignedOf_bytesOf]
  omega

theorem State.records_of_empty {s : State} (h : s.table = Vector.replicate Config.slots none) : s.records = [] := by
  rw [s.records_eq]
  exact List.filterMap_eq_nil_iff.mpr fun i _ => State.record_of_empty h i

/-- Settles O6: every move hands blocks between the free list and one chain, or rebuilds the list with the table empty. -/
theorem everyStepConservesBlocks : Obligations.EveryStepConservesBlocks := by
  unfold Obligations.EveryStepConservesBlocks
  refine ⟨fun s t hs h => hs.of_move (TableMove.step h), fun s hs => ?_,
    fun t u p bytes chain taken => SymbolStore.free_of_allocate taken, fun s i r o there live => ?_,
    fun s i r o => ⟨rfl, (s.record_retire i i r o).trans (if_pos rfl)⟩, fun s => ⟨⟨?_, State.records_of_empty rfl⟩, ?_, State.records_of_empty rfl⟩⟩
  · have total : s.symbols.free.length + s.heldBlocks.length = 1024 := by
      simpa [fullFreeList, Config.blocks] using hs.once.length_eq
    have reported := s.natAt_statusData_free (by omega)
    exact ⟨total, reported, by omega⟩
  · rw [State.becomeShadow_eq there live]
    exact ⟨rfl, _, State.record_setRecord_same _ i _, Record.blocks_of_empty rfl⟩
  · simp only [State.coldStart]
    rfl
  · simp only [State.warmRestart]
    rfl

end Sys2Proof.Machine
end

section
/-! SUPPORT. The launch queue: the records in it, each once, the one taken first, and the queue without its head; and becoming SHADOW,
which takes a record out of it (R93, R101, R107, R108, R114). -/

namespace Sys2Proof.Machine

/-! ### The number taken first (R93) -/

theorem precedes_iff (x y : Word16) : precedes x y = true ↔
    (1 ≤ (65536 + y.toNat - x.toNat) % 65536 ∧ (65536 + y.toNat - x.toNat) % 65536 ≤ 32767)
      ∨ ((65536 + y.toNat - x.toNat) % 65536 = 32768 ∧ x.toNat < y.toNat) := by
  have distance : (y - x).toNat = (65536 + y.toNat - x.toNat) % 65536 := by
    rw [BitVec.toNat_sub]
    have := x.isLt
    congr 1
    omega
  simp only [precedes, Bool.or_eq_true, Bool.and_eq_true, decide_eq_true_eq, distance]

/-- Of two numbers at most one precedes the other, and no number precedes itself. -/
theorem not_precedes_of_precedes {x y : Word16} (h : precedes x y = true) : precedes y x = false := by
  rw [Bool.eq_false_iff, Ne, precedes_iff]
  rw [precedes_iff] at h
  have := x.isLt
  have := y.isLt
  omega

theorem ne_of_precedes {x y : Word16} (h : precedes x y = true) : x ≠ y := by
  rintro rfl
  exact absurd h (by simp [not_precedes_of_precedes h])

theorem leastNumber_le (x : Word16) (xs : List Word16) : ∀ y ∈ x :: xs, (leastNumber x xs).toNat ≤ y.toNat := by
  induction xs generalizing x with
  | nil => simp [leastNumber]
  | cons z zs ih =>
    have least := ih (if z.toNat < x.toNat then z else x)
    have bound := least _ List.mem_cons_self
    have smaller : (if z.toNat < x.toNat then z else x).toNat = min z.toNat x.toNat := by split <;> omega
    intro y hy
    rw [leastNumber]
    rcases List.mem_cons.mp hy with rfl | hy
    · omega
    · rcases List.mem_cons.mp hy with rfl | hy
      · omega
      · exact least y (List.mem_cons_of_mem _ hy)

/-- The first number is one that precedes every other, or else the smallest. -/
theorem firstNumber_cases {ns : List Word16} {n : Word16} (h : firstNumber ns = some n) :
    (∀ m ∈ ns, n = m ∨ precedes n m = true)
      ∨ ((∀ m ∈ ns, n.toNat ≤ m.toNat) ∧ ∀ x ∈ ns, ∃ m ∈ ns, x ≠ m ∧ precedes x m = false) := by
  unfold firstNumber at h
  split at h
  · cases h
  · next x rest =>
    split at h
    · next y found =>
      cases h
      exact Or.inl (by simpa using List.find?_some found)
    · next none_first =>
      cases h
      refine Or.inr ⟨leastNumber_le x rest, fun y hy => ?_⟩
      simpa only [List.all_eq_true, Bool.or_eq_true, beq_iff_eq, not_forall, not_or, exists_prop, Bool.not_eq_true]
        using List.find?_eq_none.mp none_first y hy

theorem firstNumber_of_precedes {ns : List Word16} {n : Word16} (hn : n ∈ ns)
    (h : ∀ m ∈ ns, m ≠ n → precedes n m = true) : firstNumber ns = some n := by
  obtain ⟨m, hm, first⟩ := exists_firstNumber (List.ne_nil_of_mem hn)
  rcases firstNumber_cases first with all | ⟨-, none_first⟩
  · rcases all n hn with rfl | precedes_n
    · exact first
    · simp [not_precedes_of_precedes (h m hm (ne_of_precedes precedes_n))] at precedes_n
  · obtain ⟨x, hx, other, not_first⟩ := none_first n hn
    simp [h x hx other.symm] at not_first

theorem firstNumber_of_least {ns : List Word16} {n : Word16} (hn : n ∈ ns)
    (h : ∀ m ∈ ns, m ≠ n → n.toNat < m.toNat ∧ ∃ x ∈ ns, m ≠ x ∧ precedes m x = false) : firstNumber ns = some n := by
  obtain ⟨m, hm, first⟩ := exists_firstNumber (List.ne_nil_of_mem hn)
  by_cases e : m = n
  · rw [first, e]
  · obtain ⟨smaller, x, hx, other, not_first⟩ := h m hm e
    rcases firstNumber_cases first with all | ⟨least, -⟩
    · rcases all x hx with same | precedes_x
      · exact absurd same other
      · simp [not_first] at precedes_x
    · have := least n hn
      omega

/-! ### The item taken first (R108) -/

/-- Where no item is earlier than one, the earliest items are those that none is earlier than. -/
theorem mem_earliestItems_iff {xs : List Item} {x : Item} (hx : x ∈ xs)
    (early : ∀ y ∈ xs, y.time.earlier x.time = false) (y : Item) :
    y ∈ earliestItems xs ↔ y ∈ xs ∧ ∀ z ∈ xs, z.time.earlier y.time = false := by
  have there : x ∈ xs.filter (fun a => xs.all (fun b => !(b.time.earlier a.time))) := by
    simpa [List.mem_filter, hx] using early
  unfold earliestItems
  dsimp only
  rw [if_neg (by simpa using List.ne_nil_of_mem there), List.mem_filter]
  simp

theorem firstItem_of_number {xs : List Item} {x : Item} (hx : x ∈ earliestItems xs)
    (number : firstNumber ((earliestItems xs).map (·.number)) = some x.number)
    (only : ∀ y ∈ earliestItems xs, y.number = x.number → y = x) : firstItem xs = some x := by
  unfold firstItem
  dsimp only
  rw [number]
  change (earliestItems xs).find? (fun y => y.number == x.number) = some x
  cases found : (earliestItems xs).find? (fun y => y.number == x.number) with
  | none => exact absurd (List.find?_eq_none.mp found x hx) (by simp)
  | some y =>
    have same : y.number = x.number := by simpa using List.find?_some found
    exact congrArg some (only y (List.mem_of_find?_eq_some found) same)

/-- An item earlier than every other, or equal to it in time with the number that precedes, is taken first. -/
theorem firstItem_of_precedes {xs : List Item} {x : Item} (hx : x ∈ xs)
    (h : ∀ y ∈ xs, y ≠ x → (x.time.earlier y.time = true ∧ y.time.earlier x.time = false)
      ∨ (x.time = y.time ∧ precedes x.number y.number = true)) : firstItem xs = some x := by
  have irreflexive : ∀ t : Instant, t.earlier t = false := fun t => by simp [Instant.earlier, Instant.diff_self]
  have early : ∀ y ∈ xs, y.time.earlier x.time = false := fun y hy => by
    by_cases e : y = x
    · rw [e, irreflexive]
    · rcases h y hy e with ⟨-, later⟩ | ⟨same, -⟩
      · exact later
      · rw [same, irreflexive]
  have equal : ∀ y ∈ earliestItems xs, y ≠ x → precedes x.number y.number = true := fun y hy e => by
    obtain ⟨there, none_earlier⟩ := (mem_earliestItems_iff hx early y).mp hy
    rcases h y there e with ⟨earlier, -⟩ | ⟨-, first⟩
    · simp [none_earlier x hx] at earlier
    · exact first
  have x_early := (mem_earliestItems_iff hx early x).mpr ⟨hx, early⟩
  refine firstItem_of_number x_early (firstNumber_of_precedes (List.mem_map_of_mem x_early) ?_) fun y hy same => ?_
  · intro m hm other
    obtain ⟨y, hy, rfl⟩ := List.mem_map.mp hm
    exact equal y hy fun e => other (by rw [e])
  · by_contra e
    exact ne_of_precedes (equal y hy e) same.symm

/-- Where all items are equal in time and none other's number precedes every other, the one with the smallest number is taken
first. -/
theorem firstItem_of_least {xs : List Item} {x : Item} (hx : x ∈ xs)
    (h : ∀ y ∈ xs, y ≠ x → x.time = y.time ∧ x.number.toNat < y.number.toNat
      ∧ ∃ z ∈ xs, y.number ≠ z.number ∧ precedes y.number z.number = false) : firstItem xs = some x := by
  have one_time : ∀ y ∈ xs, y.time = x.time := fun y hy => by
    by_cases e : y = x
    · rw [e]
    · exact (h y hy e).1.symm
  have never : ∀ y ∈ xs, ∀ z ∈ xs, z.time.earlier y.time = false := fun y hy z hz => by
    rw [one_time y hy, one_time z hz]
    simp [Instant.earlier, Instant.diff_self]
  have all_early : ∀ y, y ∈ earliestItems xs ↔ y ∈ xs := fun y =>
    (mem_earliestItems_iff hx (never x hx) y).trans ⟨And.left, fun hy => ⟨hy, never y hy⟩⟩
  have x_early := (all_early x).mpr hx
  refine firstItem_of_number x_early (firstNumber_of_least (List.mem_map_of_mem x_early) ?_) fun y hy same => ?_
  · intro m hm other
    obtain ⟨y, hy, rfl⟩ := List.mem_map.mp hm
    obtain ⟨-, smaller, z, hz, differs, not_first⟩ := h y ((all_early y).mp hy) fun e => other (by rw [e])
    exact ⟨smaller, z.number, List.mem_map_of_mem ((all_early z).mpr hz), differs, not_first⟩
  · by_contra e
    have := (h y ((all_early y).mp hy) e).2.1
    rw [same] at this
    omega

/-! ### Items in order -/

theorem mem_of_mem_orderItems {fuel : Nat} {xs : List Item} {y : Item} (h : y ∈ orderItems fuel xs) : y ∈ xs := by
  induction fuel generalizing xs with
  | zero => cases h
  | succ n ih =>
    by_cases e : xs = []
    · rw [e, orderItems_nil] at h
      cases h
    · obtain ⟨x, early, first⟩ := exists_firstItem e
      rw [orderItems_succ first] at h
      rcases List.mem_cons.mp h with rfl | later
      · exact mem_of_mem_earliestItems early
      · exact List.mem_of_mem_filter (ih later)

theorem nodup_orderItems (fuel : Nat) (xs : List Item) : ((orderItems fuel xs).map (·.slot)).Nodup := by
  induction fuel generalizing xs with
  | zero => exact List.nodup_nil
  | succ n ih =>
    by_cases e : xs = []
    · rw [e, orderItems_nil]
      exact List.nodup_nil
    · obtain ⟨x, early, first⟩ := exists_firstItem e
      rw [orderItems_succ first, List.map_cons, List.nodup_cons]
      refine ⟨fun again => ?_, ih _⟩
      obtain ⟨y, hy, same⟩ := List.mem_map.mp again
      simpa [same] using (List.mem_filter.mp (mem_of_mem_orderItems hy)).2

theorem length_filter_slot_lt {xs : List Item} {x : Item} (hx : x ∈ xs) :
    (xs.filter (fun y => y.slot != x.slot)).length < xs.length :=
  List.length_filter_lt_length_iff_exists.mpr ⟨x, hx, by simp⟩

/-- Fuel for every item orders them as more fuel does. -/
theorem orderItems_fuel {n m : Nat} {xs : List Item} (hn : xs.length ≤ n) (hm : xs.length ≤ m) :
    orderItems n xs = orderItems m xs := by
  induction n generalizing m xs with
  | zero => rw [List.length_eq_zero_iff.mp (Nat.le_zero.mp hn), orderItems_nil, orderItems_nil]
  | succ n ih =>
    by_cases e : xs = []
    · rw [e, orderItems_nil, orderItems_nil]
    · obtain ⟨x, early, first⟩ := exists_firstItem e
      have shorter := length_filter_slot_lt (mem_of_mem_earliestItems early)
      obtain ⟨m, rfl⟩ : ∃ k, m = k + 1 := ⟨m - 1, by omega⟩
      rw [orderItems_succ first, orderItems_succ first, ih (m := m) (by omega) (by omega)]

/-! ### The launch queue -/

/-- A record that waits in the launch queue (R108). -/
def Record.Waits (r : Record) : Prop := r.state = .assembling ∨ r.state = .ready

/-- A record that waits, taken into the order of the launch queue (R108). -/
def State.queueItem (s : State) (i : Slot) : Option Item :=
  match s.record i with
  | some r => if r.state = .assembling ∨ r.state = .ready then some ⟨r.keptKeyUp, r.number, i⟩ else none
  | none => none

/-- The records that wait, in slot order. -/
def State.queueItems (s : State) : List Item := allSlots.filterMap s.queueItem

theorem State.launchQueue_eq (s : State) : s.launchQueue = (orderItems Config.slots s.queueItems).map (·.slot) := rfl

theorem State.queueItem_eq_some_iff (s : State) (i : Slot) (x : Item) :
    s.queueItem i = some x ↔ ∃ r, s.record i = some r ∧ r.Waits ∧ x = ⟨r.keptKeyUp, r.number, i⟩ := by
  unfold State.queueItem Record.Waits
  cases s.record i with
  | none => simp
  | some r => simp [eq_comm]

theorem State.mem_queueItems_iff (s : State) (x : Item) :
    x ∈ s.queueItems ↔ ∃ r, s.record x.slot = some r ∧ r.Waits ∧ x = ⟨r.keptKeyUp, r.number, x.slot⟩ := by
  rw [State.queueItems, List.mem_filterMap]
  constructor
  · rintro ⟨i, -, h⟩
    obtain ⟨r, there, waits, rfl⟩ := (s.queueItem_eq_some_iff i x).mp h
    exact ⟨r, there, waits, rfl⟩
  · rintro ⟨r, there, waits, e⟩
    exact ⟨x.slot, mem_allSlots _, (s.queueItem_eq_some_iff _ x).mpr ⟨r, there, waits, e⟩⟩

theorem State.length_queueItems (s : State) : s.queueItems.length ≤ Config.slots :=
  (List.length_filterMap_le _ _).trans (by simp [allSlots])

theorem State.nodup_launchQueue (s : State) : s.launchQueue.Nodup := nodup_orderItems _ _

/-- The launch queue holds the records that wait (R108). -/
theorem State.mem_launchQueue_iff (s : State) (i : Slot) :
    i ∈ s.launchQueue ↔ ∃ r, s.record i = some r ∧ r.Waits := by
  rw [State.launchQueue_eq, slot_mem_orderItems s.length_queueItems, List.mem_map]
  constructor
  · rintro ⟨x, hx, rfl⟩
    obtain ⟨r, there, waits, -⟩ := (s.mem_queueItems_iff x).mp hx
    exact ⟨r, there, waits⟩
  · rintro ⟨r, there, waits⟩
    exact ⟨⟨r.keptKeyUp, r.number, i⟩, (s.mem_queueItems_iff _).mpr ⟨r, there, waits, rfl⟩, rfl⟩

/-- The launch queue is read off the records that wait alone. -/
theorem State.launchQueue_congr {s t : State} (h : ∀ i, t.queueItem i = s.queueItem i) : t.launchQueue = s.launchQueue := by
  rw [State.launchQueue_eq, State.launchQueue_eq, State.queueItems, State.queueItems, funext h]

theorem State.head_launchQueue {s : State} {x : Item} (first : firstItem s.queueItems = some x) :
    s.launchQueue.head? = some x.slot := by
  rw [State.launchQueue_eq]
  change ((orderItems (31 + 1) s.queueItems).map (·.slot)).head? = _
  rw [orderItems_succ first]
  rfl

/-- A slot freed leaves the queue, and the others keep their items. -/
theorem State.queueItems_freeSlot (s : State) (i : Slot) :
    (s.freeSlot i).queueItems = s.queueItems.filter (fun y => y.slot != i) := by
  rw [State.queueItems, State.queueItems, List.filter_filterMap]
  congr 1
  funext j
  cases item : s.queueItem j with
  | none =>
    have vacant : (s.freeSlot i).queueItem j = none := by
      by_cases e : j = i
      · simp [State.queueItem, e]
      · simpa [State.queueItem, State.record_freeSlot_other s i j e] using item
    rw [vacant]
    rfl
  | some x =>
    obtain ⟨r, there, waits, rfl⟩ := (s.queueItem_eq_some_iff j x).mp item
    by_cases e : j = i
    · simp [State.queueItem, Option.filter, e]
    · simpa [State.queueItem, State.record_freeSlot_other s i j e, Option.filter, e] using item

/-- The rest of the queue is the queue without its head. -/
theorem State.launchQueue_freeSlot {s : State} {i : Slot} {rest : List Slot} (h : s.launchQueue = i :: rest) :
    (s.freeSlot i).launchQueue = rest := by
  by_cases e : s.queueItems = []
  · rw [State.launchQueue_eq, e, orderItems_nil] at h
    cases h
  · obtain ⟨x, early, first⟩ := exists_firstItem e
    have shorter := length_filter_slot_lt (mem_of_mem_earliestItems early)
    have fits := s.length_queueItems
    change ((orderItems (31 + 1) s.queueItems).map (·.slot)) = _ at h
    rw [orderItems_succ first, List.map_cons, List.cons.injEq] at h
    obtain ⟨rfl, rfl⟩ := h
    change s.queueItems.length ≤ 32 at fits
    rw [State.launchQueue_eq, State.queueItems_freeSlot, orderItems_fuel (m := 31) (by change _ ≤ 32; omega) (by omega)]

theorem State.isReady_iff (s : State) (i : Slot) : s.isReady i = true ↔ ∃ r, s.record i = some r ∧ r.state = .ready := by
  unfold State.isReady
  cases s.record i <;> simp

/-- The head READY record is the first READY one in the queue (R108). -/
theorem State.headReady_eq_some_iff (s : State) (i : Slot) :
    s.headReady = some i ↔ ∃ ahead behind, s.launchQueue = ahead ++ i :: behind
      ∧ (∃ r, s.record i = some r ∧ r.state = .ready) ∧ ∀ j ∈ ahead, ∀ r, s.record j = some r → r.state ≠ .ready := by
  have unready : ∀ j, (!s.isReady j) = true ↔ ∀ r, s.record j = some r → r.state ≠ .ready := fun j => by
    rw [Bool.not_eq_true', Bool.eq_false_iff, Ne, State.isReady_iff]
    simp
  rw [State.headReady, List.find?_eq_some_iff_append]
  simp only [State.isReady_iff, unready]
  constructor
  · rintro ⟨ready, ahead, behind, split, before⟩
    exact ⟨ahead, behind, split, ready, before⟩
  · rintro ⟨ahead, behind, split, ready, before⟩
    exact ⟨ready, ahead, behind, split, before⟩

/-- A record that is SHADOW waits no more (R107). -/
theorem not_waits_of_shadow {r : Record} (h : r.state = .shadow) : ¬ r.Waits := by simp [Record.Waits, h]

/-- Settles O40: what becoming SHADOW does, then the queue by its order of items. -/
theorem becomingShadowReleasesAndKeeps : Obligations.BecomingShadowReleasesAndKeeps := by
  unfold Obligations.BecomingShadowReleasesAndKeeps
  refine ⟨fun s i r o there => ⟨fun shadow => ?_, fun live => ⟨State.record_becomeShadow_live there live o,
    fun j other => ?_, fun queued => ?_, ?_⟩⟩, fun s => ?_⟩
  · simp only [State.becomeShadow, there, shadow, if_true]
  · rw [State.record_becomeShadow, if_neg other]
  · obtain ⟨q, now, waits⟩ := (State.mem_launchQueue_iff _ i).mp queued
    cases (State.record_becomeShadow_live there live o).symm.trans now
    exact not_waits_of_shadow rfl waits
  · rw [State.becomeShadow_eq there live]
    rfl
  · intro waits before
    have item : ∀ i a, s.record i = some a → waits a → (⟨a.keptKeyUp, a.number, i⟩ : Item) ∈ s.queueItems :=
      fun i a there waiting => (s.mem_queueItems_iff _).mpr ⟨a, there, waiting, rfl⟩
    have other : ∀ {i a}, s.record i = some a → ∀ y ∈ s.queueItems, y ≠ ⟨a.keptKeyUp, a.number, i⟩ →
        y.slot ≠ i ∧ ∃ b, s.record y.slot = some b ∧ waits b ∧ y.time = b.keptKeyUp ∧ y.number = b.number := by
      intro i a there y hy differs
      obtain ⟨b, held, waiting, e⟩ := (s.mem_queueItems_iff y).mp hy
      refine ⟨fun same => differs ?_, b, held, waiting, by rw [e], by rw [e]⟩
      rw [same, there] at held
      cases held
      rw [e, same]
    refine ⟨s.nodup_launchQueue, s.mem_launchQueue_iff, fun i a there waiting first => ?_,
      fun i a there waiting first => ?_, fun i rest => State.launchQueue_freeSlot, s.headReady_eq_some_iff⟩
    · refine State.head_launchQueue (firstItem_of_precedes (item i a there waiting) fun y hy differs => ?_)
      obtain ⟨slot, b, held, b_waits, time, number⟩ := other there y hy differs
      rw [time, number, Instant.earlier_iff, Bool.eq_false_iff, Ne, Instant.earlier_iff, precedes_iff]
      exact (first y.slot b slot held b_waits).imp (fun ⟨earlier, later⟩ => ⟨earlier, not_lt.mpr later.le⟩) id
    · refine State.head_launchQueue (firstItem_of_least (item i a there waiting) fun y hy differs => ?_)
      obtain ⟨slot, b, held, b_waits, time, number⟩ := other there y hy differs
      obtain ⟨same, smaller, e, c, -, there_c, c_waits, apart, not_first⟩ := first y.slot b slot held b_waits
      rw [time, number]
      refine ⟨same, smaller, _, item e c there_c c_waits, apart, ?_⟩
      rwa [Bool.eq_false_iff, Ne, precedes_iff]

end Sys2Proof.Machine
end

section
/-! SUPPORT. The event in which a KEYING record becomes SHADOW and the sequencer enters TAIL: the sequencer then, the decision that
belongs to that event, and the end of a tail of 0 (R104, R139, R145 to R148). -/

namespace Sys2Proof.Machine

/-! ### The sequencer in TAIL -/

/-- The sequencer in TAIL with a rest row, its tail not yet over (R147). -/
def Sequencer.inTail (k : Sequencer) (row : ModeRow) (now : Instant) : Sequencer :=
  { k with
    state := .tail, current := none, bridged := none, restRow := some row, endInstant := none,
    tailEnd := some (now.add (row.tail : Int)) }

/-- The sequencer in IDLE, 0 put out (R138, R147). -/
def idleFor (txrdy : Bool) : Sequencer :=
  { state := .idle, current := none, bridged := none, restRow := none, endInstant := none, tailEnd := none,
    mod := 0, modstb := true, txrdy := txrdy }

theorem State.enterIdle_eq (s : State) : s.enterIdle = { s with keying := idleFor s.keying.txrdy } := rfl

/-- TAIL from HOLD keeps the rest row of the finished batch (R145). -/
theorem Sequencer.inTail_own {k : Sequencer} {row : ModeRow} (h : k.restRow = some row) (now : Instant) :
    k.inTail row now = { k with
      state := .tail, current := none, bridged := none, endInstant := none, tailEnd := some (now.add (row.tail : Int)) } := by
  unfold Sequencer.inTail
  rw [← h]

theorem State.tailFromHold_eq {s : State} {row : ModeRow} (h : s.keying.restRow = some row) :
    s.tailFromHold = { s with keying := s.keying.inTail row s.time.clock } := by
  rw [State.tailFromHold, h]
  rfl

/-- A tail of 0 is over at once, a longer one is not (R147). -/
theorem State.tailDone_inTail {s : State} {k : Sequencer} {row : ModeRow}
    (entered : s.keying = k.inTail row s.time.clock) (short : row.tail ≤ 1000000) :
    s.tailDone = true ↔ row.tail = 0 := by
  rw [← State.tailDone_enterTail s row false short]
  simp only [State.tailDone, entered]
  rfl

theorem State.zeroTail_of_done {s : State} (done : s.tailDone = true) :
    s.zeroTail = { s with keying := idleFor s.keying.txrdy } := if_pos done

theorem State.zeroTail_of_not_done {s : State} (left : s.tailDone = false) : s.zeroTail = s :=
  if_neg (by simp [left])

/-- After the end of a tail of 0 no tail is over. -/
theorem State.tailDone_zeroTail (s : State) : s.zeroTail.tailDone = false := by
  cases done : s.tailDone with
  | false => rwa [State.zeroTail_of_not_done done]
  | true =>
    rw [State.zeroTail_of_done done]
    rfl

theorem State.tailDone_of_state {s : State} (h : s.keying.state ≠ .tail) : s.tailDone = false := by
  rw [Bool.eq_false_iff, Ne, State.tailDone_iff]
  exact fun done => h done.1

/-! ### The drop of a record (R146, R148) -/

/-- A KEYING record dropped from LEAD or from HOLD: SHADOW, and the sequencer in TAIL (R146, R148). -/
theorem State.dropRecord_keying {s : State} {i : Slot} {r : Record} {row : ModeRow} {rest : Sequencer}
    (there : s.record i = some r) (keying : r.state = .keying)
    (from_where : (s.keying.state = .lead ∧ row = r.row ∧ rest = { s.keying with mod := r.row.rest, modstb := true })
      ∨ (s.keying.state = .hold ∧ s.keying.restRow = some row ∧ rest = s.keying)) (o : BatchOutcome) :
    s.dropRecord i o = { s.becomeShadow i o with keying := rest.inTail row s.time.clock } := by
  have live : r.state ≠ .shadow := by simp [keying]
  rcases from_where with ⟨lead, rfl, rfl⟩ | ⟨hold, rest_row, rfl⟩
  · rw [State.dropRecord_lead there keying lead, State.becomeShadow_eq there live]
    rfl
  · rw [State.dropRecord_hold there keying hold, State.becomeShadow_eq there live, State.tailFromHold_eq (row := row)]
    · rfl
    · exact rest_row

/-- Any other record only becomes SHADOW. -/
theorem State.dropRecord_other {s : State} {i : Slot} {r : Record} (there : s.record i = some r) (other : r.state ≠ .keying)
    (o : BatchOutcome) : s.dropRecord i o = s.becomeShadow i o := by
  unfold State.dropRecord
  simp only [there]
  split
  · next keying _ => exact absurd keying other
  · next keying _ => exact absurd keying other
  · rfl

/-! ### The head READY record is read off the records that wait -/

/-- A record that does not wait, changed to another that does not, leaves the head READY record (R108). -/
theorem State.headReady_of_unwaiting {s t : State} {i : Slot} (others : ∀ j, j ≠ i → t.record j = s.record j)
    (before : ∀ r, s.record i = some r → ¬ r.Waits) (after : ∀ r, t.record i = some r → ¬ r.Waits) :
    t.headReady = s.headReady := by
  have unqueued : ∀ u : State, (∀ r, u.record i = some r → ¬ r.Waits) → u.queueItem i = none ∧ u.isReady i = false := by
    intro u waits
    refine ⟨Option.eq_none_iff_forall_ne_some.mpr fun x item => ?_, Bool.eq_false_iff.mpr fun ready => ?_⟩
    · obtain ⟨r, there, waiting, -⟩ := (u.queueItem_eq_some_iff i x).mp item
      exact waits r there waiting
    · obtain ⟨r, there, ready⟩ := (u.isReady_iff i).mp ready
      exact waits r there (Or.inr ready)
  have same : ∀ j, t.queueItem j = s.queueItem j ∧ t.isReady j = s.isReady j := fun j => by
    by_cases e : j = i
    · rw [e, (unqueued s before).1, (unqueued t after).1, (unqueued s before).2, (unqueued t after).2]
      exact ⟨rfl, rfl⟩
    · simp only [State.queueItem, State.isReady, others j e, and_self]
  rw [State.headReady, State.headReady, State.launchQueue_congr fun j => (same j).1, funext fun j => (same j).2]

/-! ### The decision from another state than HOLD -/

/-- A decision outside HOLD leaves the sequencer as it was where it refuses the record; otherwise it bridges nothing, and no
tail is over after it (R140, R141, R147). -/
theorem State.keying_decideKeyUp {s : State} {i : Slot} {r : Record} (there : s.record i = some r)
    (hold : s.keying.state ≠ .hold) :
    ((s.gateOpen r.row = false ∨ s.keying.txrdy = false) ∧ (s.decideKeyUp i).keying = s.keying)
      ∨ (s.gateOpen r.row = true ∧ s.keying.txrdy = true ∧ (s.decideKeyUp i).keying.bridged = none
        ∧ (s.decideKeyUp i).keying.state ≠ .hold ∧ (s.decideKeyUp i).tailDone = false) := by
  cases gate : s.gateOpen r.row with
  | false =>
    rw [State.decideKeyUp_muted there gate, State.refuseKeyUp_outside_hold (s := s.latch .muted) hold]
    exact Or.inl ⟨Or.inl rfl, by simp⟩
  | true =>
    cases ready : s.keying.txrdy with
    | false =>
      rw [State.decideKeyUp_notReady there gate ready, State.refuseKeyUp_outside_hold (s := s.latch .tx) hold]
      exact Or.inl ⟨Or.inr rfl, by simp⟩
    | true =>
      refine Or.inr ⟨rfl, rfl, ?_⟩
      have lead := State.becomeKeying_lead hold i r
      have keying := (GuardedMove.becomeKeying_record s i r i).trans (if_pos rfl)
      cases read : s.readBlock r (r.j / 256) with
      | none =>
        have from_lead : ((s.becomeKeying i r).latch .store).keying.state = .lead := by rw [State.latch_keying, lead]; rfl
        rw [State.decideKeyUp_fault there gate ready read,
          State.dropRecord_keying (s := (s.becomeKeying i r).latch .store) keying rfl (Or.inl ⟨from_lead, rfl, rfl⟩)]
        refine ⟨?_, ?_, State.tailDone_zeroTail _⟩ <;>
        · unfold State.zeroTail
          split <;> simp [State.enterIdle_eq, idleFor, Sequencer.inTail]
      | some img =>
        rw [State.decideKeyUp_keyed there gate ready read]
        split
        · rw [State.startSymbols_eq (s := s.keyedWith i r img) keying]
          exact ⟨rfl, by simp, State.tailDone_of_state (by simp)⟩
        · rw [State.keyedWith, lead]
          exact ⟨rfl, by simp [leadFor], State.tailDone_of_state (by simp [leadFor])⟩

theorem State.decideThenNext_follows (s : State) (i : Slot) : ∃ cs, s.decideThenNext i = (s.decideKeyUp i).follow cs := by
  unfold State.decideThenNext
  dsimp only
  split
  · exact ⟨_, rfl⟩
  · exact ⟨[], rfl⟩

theorem State.decideThenNext_keying (s : State) (i : Slot) : (s.decideThenNext i).keying = (s.decideKeyUp i).keying := by
  obtain ⟨cs, e⟩ := s.decideThenNext_follows i
  rw [e, State.follow_keying]

theorem State.decideThenNext_record_other (s : State) {i j : Slot} (h : j ≠ i) :
    (s.decideThenNext i).record j = s.record j := by
  obtain ⟨cs, e⟩ := s.decideThenNext_follows i
  rw [e, State.record_of_table _ (s.decideKeyUp i) j (State.follow_table _ cs), State.record_decideKeyUp_other s h]

theorem State.decideThenNext_tailDone (s : State) (i : Slot) : (s.decideThenNext i).tailDone = (s.decideKeyUp i).tailDone := by
  obtain ⟨cs, e⟩ := s.decideThenNext_follows i
  rw [e]
  rfl

@[simp] theorem State.decideThenNext_time (s : State) (i : Slot) : (s.decideThenNext i).time = s.time :=
  (GuardedMove.decideThenNext s i).time

/-! ### The settings stand through a decision -/

theorem State.zeroTail_store (s : State) : s.zeroTail.store = s.store := by
  unfold State.zeroTail
  split <;> rfl

theorem State.dropRecord_store (s : State) (i : Slot) (o : BatchOutcome) : (s.dropRecord i o).store = s.store := by
  unfold State.dropRecord
  split
  · rfl
  · dsimp only
    split <;> simp

theorem State.becomeKeying_store (s : State) (i : Slot) (r : Record) : (s.becomeKeying i r).store = s.store := by
  unfold State.becomeKeying
  dsimp only
  split <;> rfl

theorem State.refuseKeyUp_store (s : State) (i : Slot) (o : BatchOutcome) : (s.refuseKeyUp i o).store = s.store := by
  unfold State.refuseKeyUp
  dsimp only
  split <;> simp [State.zeroTail_store]

@[simp] theorem State.decideKeyUp_store (s : State) (i : Slot) : (s.decideKeyUp i).store = s.store := by
  cases there : s.record i with
  | none => simp only [State.decideKeyUp, there]
  | some r =>
    cases gate : s.gateOpen r.row with
    | false => rw [State.decideKeyUp_muted there gate, State.refuseKeyUp_store, State.latch_store]
    | true =>
      cases ready : s.keying.txrdy with
      | false => rw [State.decideKeyUp_notReady there gate ready, State.refuseKeyUp_store, State.latch_store]
      | true =>
        cases read : s.readBlock r (r.j / 256) with
        | none =>
          rw [State.decideKeyUp_fault there gate ready read, State.zeroTail_store, State.dropRecord_store,
            State.latch_store, State.becomeKeying_store]
        | some img =>
          rw [State.decideKeyUp_keyed there gate ready read]
          split
          · rw [State.startSymbols_store]
            exact s.becomeKeying_store i r
          · exact s.becomeKeying_store i r

@[simp] theorem State.decideThenNext_store (s : State) (i : Slot) : (s.decideThenNext i).store = s.store := by
  obtain ⟨cs, e⟩ := s.decideThenNext_follows i
  rw [e, State.follow_store, State.decideKeyUp_store]

/-! ### TAIL entered as a KEYING record is dropped -/

/-- One event took a state to another in TAIL: its KEYING record in a slot is SHADOW, and every other record, the clock and the
settings stand. -/
structure TailEntered (s t : State) (i : Slot) (r : Record) : Prop where
  before : s.keying.state ≠ .tail
  after : t.keying.state = .tail
  time : t.time = s.time
  store : t.store = s.store
  txrdy : t.keying.txrdy = s.keying.txrdy
  there : s.record i = some r
  keying : r.state = .keying
  dropped : ∃ o, t.record i = some { r.unchained with state := .shadow, shadow := some o }
  others : ∀ j, j ≠ i → t.record j = s.record j

/-- Retirements that follow do not depend on which records were SHADOW before, but for those that are due. -/
theorem State.retireNext_congr {a b s : State} (h : ∀ i, s.retirementDue i = true → a.isShadow i = b.isShadow i) :
    State.retireNext a s = State.retireNext b s := by
  have same : State.retiresNext a s = State.retiresNext b s := by
    funext i
    unfold State.retiresNext
    cases due : s.retirementDue i with
    | false => rfl
    | true => rw [h i due]
  rw [State.retireNext, State.retireNext, same]

/-- What belongs to the event that entered TAIL (R147). -/
theorem State.afterTailEntry_entered {before s : State} (was : before.keying.state ≠ .tail) (now : s.keying.state = .tail) :
    State.afterTailEntry before s = (if State.keyUpStands before s then s.decideIfDue else s).zeroTail :=
  if_pos ⟨was, now⟩

theorem State.settleKeying_entered {before s : State} (was : before.keying.state ≠ .tail) (now : s.keying.state = .tail) :
    State.settleKeying before s = (if State.keyUpStands before s then s.decideIfDue else s).zeroTail := by
  rw [State.settleKeying, State.holdEnds_outside_hold before s (by simp [now])]
  exact State.afterTailEntry_entered was now

namespace TailEntered

/-- The drop of a KEYING record from LEAD or from HOLD enters TAIL, an alarm latched or none. -/
theorem of_drop {s : State} {i : Slot} {r : Record} {row : ModeRow} {rest : Sequencer} (there : s.record i = some r)
    (keying : r.state = .keying)
    (from_where : (s.keying.state = .lead ∧ row = r.row ∧ rest = { s.keying with mod := r.row.rest, modstb := true })
      ∨ (s.keying.state = .hold ∧ s.keying.restRow = some row ∧ rest = s.keying)) (o : BatchOutcome) :
    TailEntered s (s.dropRecord i o) i r := by
  have live : r.state ≠ .shadow := by simp [keying]
  rw [State.dropRecord_keying there keying from_where]
  refine ⟨?_, rfl, State.becomeShadow_time s i o, State.becomeShadow_store s i o, ?_, there, keying,
    ⟨o, State.record_becomeShadow_live there live o⟩, fun j other => (s.record_becomeShadow i j o).trans (if_neg other)⟩
  · rcases from_where with ⟨lead, -⟩ | ⟨hold, -⟩
    · simp [lead]
    · simp [hold]
  · rcases from_where with ⟨-, -, rfl⟩ | ⟨-, -, rfl⟩ <;> rfl

/-- An event that begins from a state with the same records, sequencer, clock and settings. -/
theorem via {s u t : State} {i : Slot} {r : Record} (h : TailEntered u t i r) (table : u.table = s.table)
    (keying : u.keying = s.keying) (time : u.time = s.time) (store : u.store = s.store) : TailEntered s t i r where
  before := keying ▸ h.before
  after := h.after
  time := h.time.trans time
  store := h.store.trans store
  txrdy := by rw [h.txrdy, keying]
  there := (State.record_of_table u s i table).symm.trans h.there
  keying := h.keying
  dropped := h.dropped
  others j other := (h.others j other).trans (State.record_of_table u s j table)

variable {s t : State} {i : Slot} {r : Record} (h : TailEntered s t i r)
include h

/-- The record was KEYING and is SHADOW, so the queue and its head stand. -/
theorem headReady : t.headReady = s.headReady := by
  refine State.headReady_of_unwaiting h.others (fun q held => ?_) fun q held => ?_
  · cases h.there.symm.trans held
    simp [Record.Waits, h.keying]
  · obtain ⟨o, dropped⟩ := h.dropped
    cases dropped.symm.trans held
    exact not_waits_of_shadow rfl

/-- With no key-up reached, all that is left is the end of a tail of 0. -/
theorem settleKeying_quiet (quiet : ∀ j, s.keyUpReached j = false) : State.settleKeying s t = t.zeroTail := by
  have none_reached : ∀ j, t.keyUpReached j = false := fun j => by
    by_cases e : j = i
    · obtain ⟨o, dropped⟩ := h.dropped
      rw [e, State.keyUpReached, dropped]
      rfl
    · have same := quiet j
      rw [State.keyUpReached] at same ⊢
      rwa [h.others j e, h.time]
  rw [State.settleKeying_entered h.before h.after, State.decideIfDue_without t none_reached, ite_self]

section
variable {q : Slot} {o : Record} (head : s.headReady = some q) (held : s.record q = some o)
include head held

theorem head_ne : q ≠ i := by
  rintro rfl
  cases h.there.symm.trans held
  simpa [h.keying] using State.ready_of_headReady head held

variable (due : o.keptKeyUp.diff s.time.clock ≤ 0) (ahead : 0 ≤ (o.launch.add (ticksOf o.inc o.j)).diff s.time.clock)
include due ahead

/-- The key-up of the head READY record that has come due is decided in the event (R139). -/
theorem keyUpDue : t.keyUpDue q = true := by
  refine (State.keyUpDue_iff t q).mpr ⟨o, (h.others q (h.head_ne head held)).trans held,
    State.ready_of_headReady head held, ?_, ?_, h.headReady.trans head, Or.inr (Or.inl h.after)⟩
  · rwa [h.time]
  · rwa [h.time]

theorem settleKeying_due : State.settleKeying s t = (t.decideThenNext q).zeroTail := by
  have stands : State.keyUpStands s t = true := by
    simp [State.keyUpStands, h.headReady, head, h.others q (h.head_ne head held)]
  have decided : t.decideIfDue = t.decideThenNext q := by
    simp [State.decideIfDue, h.headReady, head, h.keyUpDue head held due ahead]
  rw [State.settleKeying_entered h.before h.after, if_pos stands, decided]

omit due ahead in
/-- A record not yet to retire is no retirement of the event, whether it counts as SHADOW before it or not (R114). -/
theorem retireNext_eq (early : 0 < (r.nominalEnd.add s.store.settings.guard).diff s.time.clock) {u : State}
    (records : ∀ j, j ≠ q → u.record j = t.record j) (store : u.store = s.store) (time : u.time = s.time) :
    State.retireNext s u = State.retireNext t u := by
  refine State.retireNext_congr fun j reached => ?_
  obtain ⟨p, now, -, past⟩ := (State.retirementDue_iff u j).mp reached
  by_cases e : j = i
  · obtain ⟨x, dropped⟩ := h.dropped
    rw [e, records i (h.head_ne head held).symm, dropped] at now
    cases now
    rw [store, time] at past
    exact absurd past (by simpa [Record.unchained] using early)
  · simp only [State.isShadow, h.others j e]

theorem exec_keyUp (early : 0 < (r.nominalEnd.add s.store.settings.guard).diff s.time.clock) :
    exec (.keyUp q) t = .next (State.retireNext s (t.decideThenNext q)) := by
  rw [h.retireNext_eq head held early (fun j other => t.decideThenNext_record_other other)
    (by rw [State.decideThenNext_store, h.store]) (by rw [State.decideThenNext_time, h.time])]
  simp only [exec, execKeyUp, h.keyUpDue head held due ahead, if_true]

/-- Where the tail is not over, or the record passes the decision, the event is the drop followed by that decision alone. -/
theorem settled_eq_keyUp (early : 0 < (r.nominalEnd.add s.store.settings.guard).diff s.time.clock)
    (stays : t.tailDone = false ∨ (s.gateOpen o.row = true ∧ s.keying.txrdy = true)) :
    Host.Outcome.next (State.retireNext s (State.settleKeying s t)) = exec (.keyUp q) t := by
  have not_done : (t.decideThenNext q).tailDone = false := by
    rw [State.decideThenNext_tailDone]
    rcases State.keying_decideKeyUp ((h.others q (h.head_ne head held)).trans held) (by simp [h.after]) with
      ⟨refused, same⟩ | ⟨-, -, -, -, left⟩
    · rcases stays with left | ⟨gate, ready⟩
      · simpa only [State.tailDone, same, (GuardedMove.decideKeyUp t q).time] using left
      · rw [State.gateOpen_of_time h.time, gate, h.txrdy, ready] at refused
        simp at refused
    · exact left
  rw [h.settleKeying_due head held due ahead, State.zeroTail_of_not_done not_done,
    h.exec_keyUp head held due ahead early]

/-- A tail of 0 ends after a decision that refuses the record (R147). -/
theorem settled_eq_idle (early : 0 < (r.nominalEnd.add s.store.settings.guard).diff s.time.clock)
    (past : t.tailDone = true) (refused : s.gateOpen o.row = false ∨ s.keying.txrdy = false) {u : State}
    (decided : exec (.keyUp q) t = .next u) :
    State.retireNext s (State.settleKeying s t) = { u with keying := idleFor s.keying.txrdy } := by
  have same : (t.decideKeyUp q).keying = t.keying := by
    rcases State.keying_decideKeyUp ((h.others q (h.head_ne head held)).trans held) (by simp [h.after]) with
      ⟨-, same⟩ | ⟨gate, ready, -⟩
    · exact same
    · rw [← State.gateOpen_of_time h.time, gate, ← h.txrdy, ready] at refused
      simp at refused
  have done : (t.decideThenNext q).tailDone = true := by
    rw [State.decideThenNext_tailDone]
    simpa only [State.tailDone, same, (GuardedMove.decideKeyUp t q).time] using past
  rw [h.exec_keyUp head held due ahead early] at decided
  cases decided
  rw [h.settleKeying_due head held due ahead, State.zeroTail_of_done done, State.decideThenNext_keying, same, h.txrdy]
  rfl

end

end TailEntered

end Sys2Proof.Machine
end

section
/-! SUPPORT. The read of the next block, on the air and before the launch (R103, R104, R141), and O48. -/

namespace Sys2Proof.Machine

/-! ### The end of a tail of 0 after an entry into TAIL -/

namespace TailEntered
variable {s t : State} {i : Slot} {r : Record} (h : TailEntered s t i r)
include h

theorem tailDone_iff {k : Sequencer} {row : ModeRow} (entered : t.keying = k.inTail row s.time.clock)
    (short : row.tail ≤ 1000000) : t.tailDone = true ↔ row.tail = 0 :=
  State.tailDone_inTail (by rw [entered, h.time]) short

theorem tailDone_of_pos {k : Sequencer} {row : ModeRow} (entered : t.keying = k.inTail row s.time.clock)
    (short : row.tail ≤ 1000000) (tail : 1 ≤ row.tail) : t.tailDone = false := by
  rw [Bool.eq_false_iff, Ne, h.tailDone_iff entered short]
  omega

/-- A tail of 0 that no decision cuts short takes the sequencer on to IDLE (R147). -/
theorem zeroTail_eq {k : Sequencer} {row : ModeRow} (entered : t.keying = k.inTail row s.time.clock)
    (short : row.tail ≤ 1000000) :
    t.zeroTail = if row.tail = 0 then { t with keying := idleFor s.keying.txrdy } else t := by
  split
  · next none_left => rw [State.zeroTail_of_done ((h.tailDone_iff entered short).mpr none_left), h.txrdy]
  · next left => exact State.zeroTail_of_not_done (h.tailDone_of_pos entered short (by omega))

end TailEntered

/-! ### BLOCK_READ -/

theorem exec_blockRead_unwanted {s : State} (h : ∀ i r b, s.blockWanted ≠ some (i, r, b)) :
    exec .blockRead s = .next s := by
  have unwanted : s.blockWanted = none := Option.eq_none_iff_forall_ne_some.mpr fun ⟨i, r, b⟩ => h i r b
  simp only [exec, execBlockRead, unwanted]
  rw [State.retireNext_of_same _ _ fun _ => rfl]

theorem exec_blockRead_wanted {s : State} {i : Slot} {r : Record} {b : Nat} (wanted : s.blockWanted = some (i, r, b)) :
    exec .blockRead s = .next (State.retireNext s
      (if r.state = .onAir then s.readOnAir i r b else s.readBeforeLaunch i r b)) := by
  simp only [exec, execBlockRead, wanted]

theorem State.readBlock_of_sound {s : State} {r : Record} {b : Nat} {n : Block} (place : r.blockOf b = some n)
    (check : crc16 (s.symbols.blockBytes n) = s.symbols.checks.get n) :
    s.readBlock r b = some { index := b, bytes := s.symbols.blockBytes n } :=
  (State.readBlock_of_block place s).trans (if_pos check)

/-- A block is read only where one is allocated and its check agrees (R104). -/
theorem State.readBlock_of_unsound {s : State} {r : Record} {b : Nat}
    (unsound : ¬ ∃ n, r.blockOf b = some n ∧ crc16 (s.symbols.blockBytes n) = s.symbols.checks.get n) :
    s.readBlock r b = none := by
  cases place : r.blockOf b with
  | none => exact State.readBlock_of_absent place s
  | some n => exact (State.readBlock_of_block place s).trans (if_neg fun check => unsound ⟨n, place, check⟩)

section
variable {s : State} {i : Slot} {r : Record} (current : s.keying.current = some i) (there : s.record i = some r)
include current there

/-! ### On the air -/

section
variable (symbols : s.keying.state = .symbols) (air : r.state = .onAir) (last : s.pacer.symbol % 256 = 255)
  (empty : s.pacer.next = none)
include symbols air last empty

theorem exec_blockRead_onAir (more : 256 * (s.pacer.symbol / 256 + 1) < r.k) (going : r.stop = none) :
    exec .blockRead s = .next (State.retireNext s (s.readOnAir i r (s.pacer.symbol / 256 + 1))) := by
  have wanted := (s.blockWanted_eq_some_iff i r _).mpr
    ⟨current, there, Or.inl ⟨air, symbols, rfl, last, more, going, by simp [empty]⟩⟩
  rw [exec_blockRead_wanted wanted, if_pos air]

theorem exec_blockRead_onAir_sound (more : 256 * (s.pacer.symbol / 256 + 1) < r.k) (going : r.stop = none)
    {img : BlockImage} (read : s.readBlock r (s.pacer.symbol / 256 + 1) = some img) :
    exec .blockRead s = .next { s with pacer := { s.pacer with next := some img } } := by
  rw [exec_blockRead_onAir current there symbols air last empty more going, State.readOnAir, read]
  exact congrArg _ (State.retireNext_of_same _ _ fun _ => rfl)

/-- A read fault on the air sets the stop; the record stays ON_AIR, so no retirement follows (R104). -/
theorem exec_blockRead_onAir_fault (more : 256 * (s.pacer.symbol / 256 + 1) < r.k) (going : r.stop = none)
    (read : s.readBlock r (s.pacer.symbol / 256 + 1) = none) :
    exec .blockRead s = .next { s.setRecord i { r with
      stop := some { symbol := s.pacer.symbol, outcome := .storeFault } } with latches := s.latches ||| 0x40 } := by
  rw [exec_blockRead_onAir current there symbols air last empty more going, State.readOnAir, read]
  refine congrArg _ (State.retireNext_of_isShadow fun j shadow => ?_)
  rw [State.isShadow, State.record_setRecord] at shadow
  by_cases e : j = i
  · simp [e, air] at shadow
  · rwa [if_neg e] at shadow

omit symbols last empty in
/-- No block at or beyond k is read, and none after a stop (R103). -/
theorem exec_blockRead_onAir_none (past : r.k ≤ 256 * (s.pacer.symbol / 256 + 1) ∨ r.stop ≠ none) :
    exec .blockRead s = .next s := by
  refine exec_blockRead_unwanted fun j q b wanted => ?_
  obtain ⟨now, held, ⟨-, -, rfl, -, more, going, -⟩ | ⟨keying, -⟩⟩ := (s.blockWanted_eq_some_iff j q b).mp wanted
  · cases current.symm.trans now
    cases there.symm.trans held
    rcases past with beyond | stopped
    · omega
    · exact stopped going
  · cases current.symm.trans now
    cases there.symm.trans held
    simp [air] at keying

end

/-! ### Before the launch -/

section
variable (keying : r.state = .keying)
include keying

theorem State.blockWanted_keying_iff :
    s.blockWanted.isSome = true ↔ s.pacer.block.map (·.index) ≠ some (r.j / 256) := by
  rw [State.blockWanted_isSome_iff]
  constructor
  · rintro ⟨j, q, held, now, ⟨-, air, -⟩ | ⟨-, other⟩⟩ <;> cases current.symm.trans now <;> cases there.symm.trans held
    · simp [keying] at air
    · exact other
  · exact fun other => ⟨i, r, there, current, Or.inr ⟨keying, other⟩⟩

theorem exec_blockRead_keying_unwanted (same : ¬ s.pacer.block.map (·.index) ≠ some (r.j / 256)) :
    exec .blockRead s = .next s :=
  exec_blockRead_unwanted fun _ _ _ wanted =>
    same ((State.blockWanted_keying_iff current there keying).mp (by simp [wanted]))

section
variable (wanted : s.pacer.block.map (·.index) ≠ some (r.j / 256))
include wanted

theorem exec_blockRead_keying :
    exec .blockRead s = .next (State.retireNext s (s.readBeforeLaunch i r (r.j / 256))) := by
  rw [exec_blockRead_wanted ((s.blockWanted_eq_some_iff i r _).mpr ⟨current, there, Or.inr ⟨keying, rfl, wanted⟩⟩),
    if_neg (by simp [keying])]

theorem exec_blockRead_keying_sound {img : BlockImage} (read : s.readBlock r (r.j / 256) = some img) :
    exec .blockRead s = .next { s with pacer := { s.pacer with block := some img, next := none } } := by
  rw [exec_blockRead_keying current there keying wanted, State.readBeforeLaunch, read]
  exact congrArg _ (State.retireNext_of_same _ _ fun _ => rfl)

/-- A read fault before the launch drops the record as one at the key-up decision does (R141). -/
theorem exec_blockRead_keying_fault (read : s.readBlock r (r.j / 256) = none) :
    exec .blockRead s =
      .next (State.retireNext s (State.settleKeying s ((s.latch .store).dropRecord i .storeFault))) := by
  rw [exec_blockRead_keying current there keying wanted, State.readBeforeLaunch, read]

end

end

end

/-- Settles O48: the read is that of `blockWanted`, and a fault before the launch is an entry into TAIL, whose event ends as
every such event does. -/
theorem nextBlockIsReadOrFaults : Obligations.NextBlockIsReadOrFaults := by
  unfold Obligations.NextBlockIsReadOrFaults
  refine ⟨fun s i r symbols current there air last empty => ⟨fun more going n place => ⟨fun check => ?_, fun bad => ?_⟩,
    exec_blockRead_onAir_none current there air⟩, fun s i r current there keying => ?_⟩
  · exact exec_blockRead_onAir_sound current there symbols air last empty more going (State.readBlock_of_sound place check)
  · exact exec_blockRead_onAir_fault current there symbols air last empty more going
      ((State.readBlock_of_block place s).trans (if_neg bad))
  · refine ⟨State.blockWanted_keying_iff current there keying, exec_blockRead_keying_unwanted current there keying,
      fun n wanted place check => exec_blockRead_keying_sound current there keying wanted
        (State.readBlock_of_sound place check), ?_⟩
    intro row rest wanted unsound from_where short tailed idle
    have read := exec_blockRead_keying_fault current there keying wanted (State.readBlock_of_unsound unsound)
    have entered : ∃ own, (((s.latch .store).keying.state = .lead ∧ row = r.row
          ∧ own = { (s.latch .store).keying with mod := r.row.rest, modstb := true })
        ∨ ((s.latch .store).keying.state = .hold ∧ (s.latch .store).keying.restRow = some row
          ∧ own = (s.latch .store).keying))
        ∧ tailed.keying = own.inTail row s.time.clock := by
      rcases from_where with ⟨lead, rfl, rfl⟩ | ⟨hold, own, rfl⟩
      · exact ⟨_, Or.inl ⟨lead, rfl, rfl⟩, rfl⟩
      · exact ⟨_, Or.inr ⟨hold, own, rfl⟩, (Sequencer.inTail_own own _).symm⟩
    obtain ⟨own, from_where, inTail⟩ := entered
    have dropped : (s.latch .store).dropRecord i .storeFault = tailed := by
      rw [State.dropRecord_keying (s := s.latch .store) there keying from_where]
      exact congrArg (fun k => { (s.latch .store).becomeShadow i .storeFault with keying := k }) inTail.symm
    have event : TailEntered s tailed i r := by
      rw [← dropped]
      exact (TailEntered.of_drop (s := s.latch .store) there keying from_where .storeFault).via rfl rfl rfl rfl
    rw [read, dropped]
    refine ⟨fun quiet => ?_, fun q o head held due ahead early => ⟨fun stays => ?_, fun none_left refused u decided => ?_⟩⟩
    · rw [event.settleKeying_quiet quiet, event.zeroTail_eq inTail short]
      rfl
    · exact event.settled_eq_keyUp head held due ahead early (stays.imp_left (event.tailDone_of_pos inTail short))
    · rw [event.settled_eq_idle head held due ahead early ((event.tailDone_iff inTail short).mpr none_left) refused
        decided]
      rfl

end Sys2Proof.Machine
end

section
/-! SUPPORT. The abort of a record and of every record, and what either owes the sequencer (R118, R119, R139, R146 to R148,
R164; log 21). -/

namespace Sys2Proof.Machine

/-! ### The abort of one record (R118, R119) -/

/-- A record after an abort, `m` the symbol in progress (R118, R119). -/
def Record.aborted (m : Nat) (r : Record) : Record :=
  match r.state with
  | .shadow => r
  | .onAir => if r.stop = none then { r with stop := some { symbol := m, outcome := .aborted } } else r
  | _ => { r with state := .shadow, shadow := some .aborted, chains := Vector.replicate 16 [] }

/-- The abort makes the record SHADOW: it is neither SHADOW nor ON_AIR (R118, R119). -/
def Record.droppedByAbort (r : Record) : Bool := decide (r.state ≠ .shadow ∧ r.state ≠ .onAir)

/-- The blocks that the abort of a record releases (R101). -/
def Record.freedByAbort (r : Record) : List Block := if r.droppedByAbort then r.blocks else []

/-- The sequencer after the abort of a record: TAIL for a KEYING one, from LEAD with its row, its rest level out, and from HOLD
with the row of the finished batch (R146, R148). -/
def Sequencer.afterAbort (now : Instant) (k : Sequencer) (r : Record) : Sequencer :=
  if r.state = .keying then
    match k.state with
    | .lead => { k with mod := r.row.rest, modstb := true }.inTail r.row now
    | .hold => k.inTail (k.restRow.getD factoryMode) now
    | _ => k
  else k

theorem Record.droppedByAbort_iff (r : Record) : r.droppedByAbort = true ↔ r.state ≠ .shadow ∧ r.state ≠ .onAir :=
  decide_eq_true_iff

theorem Record.aborted_of_dropped {r : Record} (dropped : r.droppedByAbort = true) (m : Nat) :
    r.aborted m = { r.unchained with state := .shadow, shadow := some .aborted } := by
  obtain ⟨live, earth⟩ := r.droppedByAbort_iff.mp dropped
  unfold Record.aborted
  split
  · contradiction
  · contradiction
  · rfl

/-- After an abort no record waits in the launch queue. -/
theorem Record.aborted_unwaiting (r : Record) (m : Nat) : ¬ (r.aborted m).Waits := by
  unfold Record.aborted
  split
  · next shadow => exact not_waits_of_shadow shadow
  · next air => split <;> simp [Record.Waits, air]
  · exact not_waits_of_shadow rfl

/-- A record SHADOW after an abort and not before it is one that the abort dropped. -/
theorem Record.aborted_shadow_iff (r : Record) (m : Nat) :
    ((r.aborted m).state = .shadow ∧ r.state ≠ .shadow) ↔ r.droppedByAbort = true := by
  rw [Record.droppedByAbort_iff]
  unfold Record.aborted
  split
  · next shadow => simp [shadow]
  · next air => split <;> simp [air]
  · next live earth => exact ⟨fun _ => ⟨live, earth⟩, fun _ => ⟨rfl, live⟩⟩

@[simp] theorem Record.aborted_nominalEnd (r : Record) (m : Nat) : (r.aborted m).nominalEnd = r.nominalEnd := by
  unfold Record.aborted
  split
  · rfl
  · split <;> rfl
  · rfl

theorem State.setRecord_of_record {s : State} {i : Slot} {r : Record} (there : s.record i = some r) : s.setRecord i r = s := by
  have same : s.table.set i.val (some r) i.isLt = s.table := by
    rw [← there]
    exact Vector.set_getElem_self i.isLt
  rw [State.setRecord, same]

theorem State.abortRecord_absent {s : State} {i : Slot} (absent : s.record i = none) : s.abortRecord i = s := by
  simp only [State.abortRecord, absent]

/-- A record that is neither SHADOW nor ON_AIR is dropped (R118). -/
theorem State.abortRecord_dropped {s : State} {i : Slot} {r : Record} (there : s.record i = some r)
    (dropped : r.droppedByAbort = true) : s.abortRecord i = s.dropRecord i .aborted := by
  obtain ⟨live, earth⟩ := r.droppedByAbort_iff.mp dropped
  cases state : r.state with
  | shadow => exact absurd state live
  | onAir => exact absurd state earth
  | assembling => simp only [State.abortRecord, there, state]
  | ready => simp only [State.abortRecord, there, state]
  | keying => simp only [State.abortRecord, there, state]

/-- A dropped record: SHADOW, its blocks released, and the sequencer as R146 and R148 say. -/
theorem State.dropRecord_eq {s : State} {i : Slot} {r : Record} (there : s.record i = some r) (live : r.state ≠ .shadow)
    (o : BatchOutcome) :
    s.dropRecord i o = { s.becomeShadow i o with keying := s.keying.afterAbort s.time.clock r } := by
  rw [State.becomeShadow_eq there live]
  by_cases keying : r.state = .keying
  · rw [Sequencer.afterAbort, if_pos keying]
    cases state : s.keying.state with
    | lead =>
      rw [State.dropRecord_lead there keying state, State.becomeShadow_eq there live]
      rfl
    | hold =>
      rw [State.dropRecord_hold there keying state, State.becomeShadow_eq there live]
      rfl
    | idle => simp only [State.dropRecord, there, keying, state, State.becomeShadow_eq there live]; rfl
    | tail => simp only [State.dropRecord, there, keying, state, State.becomeShadow_eq there live]; rfl
    | symbols => simp only [State.dropRecord, there, keying, state, State.becomeShadow_eq there live]; rfl
  · rw [State.dropRecord_other there keying, Sequencer.afterAbort, if_neg keying, State.becomeShadow_eq there live]
    rfl

/-- The abort of a record in one equation: the record, the free list and the sequencer change, and nothing else. -/
theorem State.abortRecord_eq {s : State} {i : Slot} {r : Record} (there : s.record i = some r) :
    s.abortRecord i = { s.setRecord i (r.aborted s.pacer.symbol) with
      symbols := { s.symbols with free := s.symbols.free ++ r.freedByAbort }
      keying := s.keying.afterAbort s.time.clock r } := by
  cases dropped : r.droppedByAbort with
  | true =>
    obtain ⟨live, -⟩ := r.droppedByAbort_iff.mp dropped
    rw [State.abortRecord_dropped there dropped, State.dropRecord_eq there live, State.becomeShadow_eq there live,
      Record.aborted_of_dropped dropped, Record.freedByAbort, if_pos dropped]
    rfl
  | false =>
    have kept : r.state = .shadow ∨ r.state = .onAir := by
      rw [Bool.eq_false_iff, Ne, Record.droppedByAbort_iff] at dropped
      tauto
    have own : s.keying.afterAbort s.time.clock r = s.keying := if_neg (by rcases kept with e | e <;> simp [e])
    rw [own, Record.freedByAbort, dropped]
    rcases kept with shadow | air
    · have same : r.aborted s.pacer.symbol = r := by simp only [Record.aborted, shadow]
      simp [State.abortRecord, there, shadow, same, State.setRecord_of_record there]
    · by_cases going : r.stop = none
      · simp [State.abortRecord, there, air, Record.aborted, going, State.setRecord]
      · have same : r.aborted s.pacer.symbol = r := by simp only [Record.aborted, air, going, if_false]
        simp [State.abortRecord, there, air, going, same, State.setRecord_of_record there]

/-! ### The abort of every record, in slot order (R164; log 21) -/

theorem State.record_abortRecord (s : State) (i j : Slot) :
    (s.abortRecord i).record j = if j = i then (s.record i).map (Record.aborted s.pacer.symbol) else s.record j := by
  cases there : s.record i with
  | none =>
    rw [State.abortRecord_absent there]
    split
    · next same => rw [same, there]; rfl
    · rfl
  | some r =>
    rw [State.abortRecord_eq there]
    exact s.record_setRecord i j _

theorem State.abortRecord_frame (s : State) (i : Slot) : ∃ table, s.abortRecord i = { s with
      table
      symbols := { s.symbols with free := s.symbols.free ++ (s.record i).toList.flatMap Record.freedByAbort }
      keying := (s.record i).toList.foldl (Sequencer.afterAbort s.time.clock) s.keying } := by
  cases there : s.record i with
  | none => exact ⟨s.table, by simp [State.abortRecord_absent there]⟩
  | some r => exact ⟨_, by rw [State.abortRecord_eq there]; simp [State.setRecord]; rfl⟩

/-- The records of some slots aborted one after another: each record, the free list and the sequencer afterwards. -/
theorem State.abortRecords_eq (is : List Slot) (s : State) (once : is.Nodup) :
    let u := is.foldl State.abortRecord s
    (∀ j, u.record j = if j ∈ is then (s.record j).map (Record.aborted s.pacer.symbol) else s.record j)
      ∧ ∃ table, u = { s with
        table
        symbols := { s.symbols with free := s.symbols.free ++ (is.filterMap s.record).flatMap Record.freedByAbort }
        keying := (is.filterMap s.record).foldl (Sequencer.afterAbort s.time.clock) s.keying } := by
  induction is generalizing s with
  | nil => exact ⟨fun j => by simp, s.table, by simp⟩
  | cons i is ih =>
    obtain ⟨fresh, once⟩ := List.nodup_cons.mp once
    obtain ⟨records, table, frame⟩ := ih (s.abortRecord i) once
    obtain ⟨_, first⟩ := s.abortRecord_frame i
    have pacer : (s.abortRecord i).pacer = s.pacer := by rw [first]
    have later : ∀ j ∈ is, (s.abortRecord i).record j = s.record j := fun j member => by
      rw [State.record_abortRecord, if_neg (ne_of_mem_of_not_mem member fresh)]
    have rest : is.filterMap (s.abortRecord i).record = is.filterMap s.record := List.filterMap_congr later
    have split : (i :: is).filterMap s.record = (s.record i).toList ++ is.filterMap s.record := by
      cases there : s.record i <;> simp [there]
    refine ⟨fun j => ?_, ?_⟩
    · rw [List.foldl_cons, records j, pacer]
      by_cases e : j = i
      · rw [e, if_neg fresh, State.record_abortRecord, if_pos rfl, if_pos List.mem_cons_self]
      · rw [State.record_abortRecord, if_neg e]
        simp [e]
    · refine ⟨table, ?_⟩
      rw [List.foldl_cons, frame, rest, split, List.flatMap_append, List.foldl_append, ← List.append_assoc, first]

/-- A list of records aborted: the sequencer moves for the first KEYING one, and from TAIL for none. -/
theorem Sequencer.foldl_afterAbort_elsewhere (now : Instant) (rs : List Record) {k : Sequencer} (lead : k.state ≠ .lead)
    (hold : k.state ≠ .hold) : rs.foldl (Sequencer.afterAbort now) k = k := by
  have stays : ∀ r, k.afterAbort now r = k := fun r => by
    unfold Sequencer.afterAbort
    split
    · split
      · contradiction
      · contradiction
      · rfl
    · rfl
  induction rs with
  | nil => rfl
  | cons r rs ih => rw [List.foldl_cons, stays r, ih]

theorem Sequencer.foldl_afterAbort_unkeyed (now : Instant) {rs : List Record} (none_keying : ∀ r ∈ rs, r.state ≠ .keying)
    (k : Sequencer) : rs.foldl (Sequencer.afterAbort now) k = k := by
  induction rs with
  | nil => rfl
  | cons r rs ih =>
    rw [List.foldl_cons, Sequencer.afterAbort, if_neg (none_keying r List.mem_cons_self),
      ih fun q member => none_keying q (List.mem_cons_of_mem r member)]

/-- Where every KEYING record takes the sequencer to one same TAIL, the first takes it there and it stays. -/
theorem Sequencer.foldl_afterAbort_keyed (now : Instant) {rs : List Record} {k t : Sequencer} (tail : t.state = .tail)
    (each : ∀ r ∈ rs, r.state = .keying → k.afterAbort now r = t) (keyed : ∃ r ∈ rs, r.state = .keying) :
    rs.foldl (Sequencer.afterAbort now) k = t := by
  induction rs with
  | nil => simp at keyed
  | cons r rs ih =>
    rw [List.foldl_cons]
    by_cases keying : r.state = .keying
    · rw [each r List.mem_cons_self keying]
      exact Sequencer.foldl_afterAbort_elsewhere now rs (by simp [tail]) (by simp [tail])
    · have unmoved : k.afterAbort now r = k := if_neg keying
      rw [unmoved]
      refine ih (fun q member => each q (List.mem_cons_of_mem r member)) ?_
      obtain ⟨q, member, q_keying⟩ := keyed
      rcases List.mem_cons.mp member with rfl | member
      · exact absurd q_keying keying
      · exact ⟨q, member, q_keying⟩

/-- The state after every record has been aborted, before what the sequencer is owed (log 21). It is never evaluated: a proof
goes through the lemmas below. -/
@[irreducible]
def State.abortedAll (s : State) : State := allSlots.foldl State.abortRecord s

theorem State.abortedAll_eq (s : State) : s.abortedAll = allSlots.foldl State.abortRecord s := by
  delta State.abortedAll
  exact rfl

theorem State.record_abortedAll (s : State) (j : Slot) :
    s.abortedAll.record j = (s.record j).map (Record.aborted s.pacer.symbol) := by
  have records := (State.abortRecords_eq allSlots s (List.nodup_finRange _)).1 j
  rwa [← State.abortedAll_eq, if_pos (mem_allSlots j)] at records

theorem State.abortedAll_frame (s : State) : ∃ table, s.abortedAll = { s with
      table
      symbols := { s.symbols with free := s.symbols.free ++ s.records.flatMap Record.freedByAbort }
      keying := s.records.foldl (Sequencer.afterAbort s.time.clock) s.keying } := by
  rw [State.records_eq, State.abortedAll_eq]
  exact (State.abortRecords_eq allSlots s (List.nodup_finRange _)).2

/-- No record waits in the queue afterwards, so no key-up is decided. -/
theorem State.headReady_abortedAll (s : State) : s.abortedAll.headReady = none := by
  refine Option.eq_none_iff_forall_ne_some.mpr fun j head => ?_
  obtain ⟨ahead, behind, -, ⟨r, there, ready⟩, -⟩ := (s.abortedAll.headReady_eq_some_iff j).mp head
  rw [State.record_abortedAll] at there
  obtain ⟨q, -, rfl⟩ := Option.map_eq_some_iff.mp there
  exact q.aborted_unwaiting _ (Or.inr ready)

end Sys2Proof.Machine
end

section
/-! SUPPORT. The early end of HOLD, and the state after ABORT of all batches (R114, R146 to R148, R164; log 21, log 42). -/

namespace Sys2Proof.Machine

/-! ### The early end of HOLD (R146) -/

/-- HOLD stays where the bridged record stays READY, stays the head READY one and keeps its j (R146). -/
theorem State.holdEnds_without {before s : State}
    (stays : ∀ b, s.keying.bridged = some b → s.keying.current = none →
      (before.isReady b = true → s.isReady b = true) ∧ (before.headReady = some b → s.headReady = some b)
        ∧ ∀ r q, s.record b = some r → before.record b = some q → r.j = q.j) :
    State.holdEnds before s = false := by
  unfold State.holdEnds
  split
  · next b e _ idle bridged _ =>
    obtain ⟨ready, head, j⟩ := stays b bridged idle
    simp only [Bool.or_eq_false_iff, Bool.and_eq_false_iff, Bool.not_eq_false', decide_eq_false_iff_not, not_not]
    refine ⟨⟨?_, ?_⟩, ?_⟩
    · cases was : before.isReady b with
      | false => exact Or.inl rfl
      | true => exact Or.inr (ready was)
    · by_cases was : before.headReady = some b
      · exact Or.inr (head was)
      · exact Or.inl was
    · split
      · next r q now then_ => simp [j r q now then_]
      · rfl
  · rfl

/-- HOLD ends where the bridged record left READY (R146). -/
theorem State.holdEnds_of_unready {before s : State} {b : Slot} {e : Instant} (hold : s.keying.state = .hold)
    (idle : s.keying.current = none) (bridged : s.keying.bridged = some b) (ends : s.keying.endInstant = some e)
    (was : before.isReady b = true) (left : s.isReady b = false) : State.holdEnds before s = true := by
  simp [State.holdEnds, hold, idle, bridged, ends, was, left]

/-! ### An event after which no record is READY -/

theorem State.decideIfDue_of_headReady_none {s : State} (unqueued : s.headReady = none) : s.decideIfDue = s := by
  simp only [State.decideIfDue, unqueued]

theorem State.afterTailEntry_of_headReady_none {before s : State} (was : before.keying.state ≠ .tail)
    (now : s.keying.state = .tail) (unqueued : s.headReady = none) : State.afterTailEntry before s = s.zeroTail := by
  rw [State.afterTailEntry_entered was now, State.decideIfDue_of_headReady_none unqueued, ite_self]

theorem State.settleKeying_of_headReady_none {before s : State} (was : before.keying.state ≠ .tail)
    (now : s.keying.state = .tail) (unqueued : s.headReady = none) : State.settleKeying before s = s.zeroTail := by
  rw [State.settleKeying, State.holdEnds_outside_hold before s (by simp [now])]
  exact State.afterTailEntry_of_headReady_none was now unqueued

/-! ### What the abort of every record leaves (log 21) -/

section
variable (s : State)

theorem State.abortedAll_keying :
    s.abortedAll.keying = s.records.foldl (Sequencer.afterAbort s.time.clock) s.keying := by
  obtain ⟨_, frame⟩ := s.abortedAll_frame
  rw [frame]

theorem State.abortedAll_time : s.abortedAll.time = s.time := by
  obtain ⟨_, frame⟩ := s.abortedAll_frame
  rw [frame]

theorem State.abortedAll_store : s.abortedAll.store = s.store := by
  obtain ⟨_, frame⟩ := s.abortedAll_frame
  rw [frame]

theorem State.abortedAll_keying_elsewhere (lead : s.keying.state ≠ .lead) (hold : s.keying.state ≠ .hold) :
    s.abortedAll.keying = s.keying := by
  rw [State.abortedAll_keying, Sequencer.foldl_afterAbort_elsewhere _ _ lead hold]

theorem State.abortedAll_keying_unkeyed (none_keying : ∀ i r, s.record i = some r → r.state ≠ .keying) :
    s.abortedAll.keying = s.keying := by
  rw [State.abortedAll_keying]
  refine Sequencer.foldl_afterAbort_unkeyed _ (fun r member => ?_) _
  obtain ⟨i, there⟩ := (mem_records_iff s r).mp member
  exact none_keying i r there

theorem State.abortedAll_keying_keyed {k : Sequencer} {row : ModeRow} {i : Slot} {r : Record} (there : s.record i = some r)
    (keying : r.state = .keying)
    (each : ∀ j q, s.record j = some q → q.state = .keying →
      s.keying.afterAbort s.time.clock q = k.inTail row s.time.clock) :
    s.abortedAll.keying = k.inTail row s.time.clock := by
  rw [State.abortedAll_keying]
  refine Sequencer.foldl_afterAbort_keyed _ rfl (fun q member q_keying => ?_)
    ⟨r, (mem_records_iff s r).mpr ⟨i, there⟩, keying⟩
  obtain ⟨j, held⟩ := (mem_records_iff s q).mp member
  exact each j q held q_keying

/-- What the sequencer is owed when no record is READY changes the sequencer alone. -/
theorem State.settleKeying_frame {s : State} (unqueued : s.headReady = none) (before : State) :
    ∃ k, State.settleKeying before s = { s with keying := k } := by
  have tailed : ∀ v : State, v.headReady = none → ∃ k, State.afterTailEntry before v = { v with keying := k } := by
    intro v unqueued
    unfold State.afterTailEntry
    split
    · rw [State.decideIfDue_of_headReady_none unqueued, ite_self]
      unfold State.zeroTail
      split
      · exact ⟨_, v.enterIdle_eq⟩
      · exact ⟨v.keying, rfl⟩
    · exact ⟨v.keying, rfl⟩
  unfold State.settleKeying
  split
  · obtain ⟨k, e⟩ := tailed s.tailFromHold unqueued
    exact ⟨k, e⟩
  · exact tailed s unqueued

/-- The state after ABORT of all batches, its answer left out. -/
def State.afterAbortAll : State := State.retireNext s (State.settleKeying s s.abortedAll)

theorem State.afterAbortAll_keying : s.afterAbortAll.keying = (State.settleKeying s s.abortedAll).keying := rfl

theorem State.record_afterAbortAll (i : Slot) :
    s.afterAbortAll.record i = (s.record i).map (Record.aborted s.pacer.symbol) := by
  obtain ⟨k, settled⟩ := State.settleKeying_frame s.headReady_abortedAll s
  rw [State.afterAbortAll, settled, ← State.record_abortedAll]
  rfl

theorem State.afterAbortAll_frame :
    s.afterAbortAll = { s with
      table := s.afterAbortAll.table
      symbols := { s.symbols with free := s.symbols.free ++ s.records.flatMap Record.freedByAbort }
      keying := s.afterAbortAll.keying
      pending := s.afterAbortAll.pending } := by
  obtain ⟨k, settled⟩ := State.settleKeying_frame s.headReady_abortedAll s
  obtain ⟨table, frame⟩ := s.abortedAll_frame
  rw [State.afterAbortAll, settled, frame]
  rfl

/-- The records dropped after their retirement instant retire in the events that follow (R114; log 42). -/
theorem State.afterAbortAll_pending :
    ∃ cs : List Instr, s.afterAbortAll.pending = cs ++ s.pending ∧ ∀ c, c ∈ cs ↔ ∃ i r, c = .retirement i
      ∧ s.record i = some r ∧ r.droppedByAbort = true
      ∧ (r.nominalEnd.add s.store.settings.guard).diff s.time.clock ≤ 0 := by
  obtain ⟨k, settled⟩ := State.settleKeying_frame s.headReady_abortedAll s
  have retires : ∀ i, State.retiresNext s { s.abortedAll with keying := k } i = true ↔ ∃ r, s.record i = some r
      ∧ r.droppedByAbort = true ∧ (r.nominalEnd.add s.store.settings.guard).diff s.time.clock ≤ 0 := fun i => by
    have now : ({ s.abortedAll with keying := k } : State).record i = (s.record i).map (Record.aborted s.pacer.symbol) :=
      s.record_abortedAll i
    rw [State.retiresNext_iff, now, State.abortedAll_time, State.abortedAll_store]
    cases there : s.record i with
    | none => simp
    | some r => simp [← r.aborted_shadow_iff s.pacer.symbol, and_assoc, and_comm, and_left_comm]
  refine ⟨(allSlots.filter (State.retiresNext s { s.abortedAll with keying := k })).map Instr.retirement, ?_, fun c => ?_⟩
  · obtain ⟨table, frame⟩ := s.abortedAll_frame
    rw [State.afterAbortAll, settled, State.retireNext, State.follow]
    exact congrArg (_ ++ ·) (by rw [frame])
  · simp only [List.mem_map, List.mem_filter, mem_allSlots, true_and, retires]
    constructor
    · rintro ⟨i, ⟨r, there, late⟩, rfl⟩
      exact ⟨i, r, rfl, there, late⟩
    · rintro ⟨i, r, rfl, there, late⟩
      exact ⟨i, ⟨r, there, late⟩, rfl⟩

end

/-- A tail of 0 ends at once; a longer one stands (R147). -/
theorem State.zeroTail_inTail {s : State} {k : Sequencer} {row : ModeRow} (entered : s.keying = k.inTail row s.time.clock)
    (short : row.tail ≤ 1000000) :
    s.zeroTail.keying = if row.tail = 0 then idleFor k.txrdy else k.inTail row s.time.clock := by
  split
  · next none_left =>
    rw [State.zeroTail_of_done ((State.tailDone_inTail entered short).mpr none_left), entered]
    rfl
  · next left =>
    rw [State.zeroTail_of_not_done, entered]
    rw [Bool.eq_false_iff, Ne, State.tailDone_inTail entered short]
    exact left

section
variable {s : State}

theorem State.afterAbortAll_keying_elsewhere (lead : s.keying.state ≠ .lead) (hold : s.keying.state ≠ .hold) :
    s.afterAbortAll.keying = s.keying := by
  have same := s.abortedAll_keying_elsewhere lead hold
  rw [State.afterAbortAll_keying,
    State.settleKeying_without _ _ same (State.holdEnds_outside_hold _ _ (by rwa [same])), same]

/-- Where the KEYING records take the sequencer to one same TAIL, its tail ends in the event when it is 0 (R147). -/
theorem State.afterAbortAll_keying_keyed {k : Sequencer} {row : ModeRow} {i : Slot} {r : Record}
    (was : s.keying.state ≠ .tail) (there : s.record i = some r) (keying : r.state = .keying)
    (each : ∀ j q, s.record j = some q → q.state = .keying →
      s.keying.afterAbort s.time.clock q = k.inTail row s.time.clock) (short : row.tail ≤ 1000000) :
    s.afterAbortAll.keying = if row.tail = 0 then idleFor k.txrdy else k.inTail row s.time.clock := by
  have entered := s.abortedAll_keying_keyed there keying each
  rw [State.afterAbortAll_keying,
    State.settleKeying_of_headReady_none was (by rw [entered]; rfl) s.headReady_abortedAll,
    State.zeroTail_inTail (by rw [State.abortedAll_time, entered]) short, State.abortedAll_time]

/-- With no KEYING record, HOLD ends where the bridged READY record is dropped (R146). -/
theorem State.afterAbortAll_keying_bridged {row : ModeRow} {b : Slot} {q : Record} {e : Instant}
    (none_keying : ∀ i r, s.record i = some r → r.state ≠ .keying) (hold : s.keying.state = .hold)
    (rest : s.keying.restRow = some row) (idle : s.keying.current = none) (ends : s.keying.endInstant = some e)
    (bridged : s.keying.bridged = some b) (there : s.record b = some q) (ready : q.state = .ready)
    (short : row.tail ≤ 1000000) :
    s.afterAbortAll.keying = if row.tail = 0 then idleFor s.keying.txrdy else s.keying.inTail row s.time.clock := by
  have same := s.abortedAll_keying_unkeyed none_keying
  have left : s.abortedAll.isReady b = false := by
    rw [Bool.eq_false_iff, Ne, State.isReady_iff, State.record_abortedAll, there]
    rintro ⟨r, now, ready⟩
    exact q.aborted_unwaiting _ (Or.inr (by rw [← ready, ← Option.some.inj now]))
  have is_over : State.holdEnds s s.abortedAll = true :=
    State.holdEnds_of_unready (by rw [same, hold]) (by rw [same, idle]) (by rw [same, bridged]) (by rw [same, ends])
      ((s.isReady_iff b).mpr ⟨q, there, ready⟩) left
  have entered := State.tailFromHold_eq (s := s.abortedAll) (row := row) (by rw [same, rest])
  rw [State.afterAbortAll_keying, State.settleKeying, if_pos is_over, entered,
    State.afterTailEntry_of_headReady_none (by simp [hold]) rfl (by exact s.headReady_abortedAll),
    State.zeroTail_inTail rfl short, same, State.abortedAll_time]

end

end Sys2Proof.Machine
end

section
/-! SUPPORT. The request ABORT, and the state after the abort of one record by its state (R114, R118, R119, R139, R146 to R148,
R156, R164). -/

namespace Sys2Proof.Machine

/-! ### The request (R164) -/

theorem natAt_number (b : Byte) (w : Word16) : natAt (b :: bytesOf 2 w.toNat) 1 2 = w.toNat := by
  have bound := w.isLt
  simp only [natAt, fieldAt_cons_of_pos Nat.one_pos, Nat.sub_self, fieldAt_whole (length_bytesOf 2 _), unsignedOf_bytesOf]
  omega

/-- ABORT is served free or busy (R156). -/
theorem exec_abort (s : State) (h : Handed) (b : Byte) (number : Word16) :
    exec (.abort h (b :: bytesOf 2 number.toNat)) s =
      .next ((s.bump (.mgmt .requestsTaken)).doAbort h (b :: bytesOf 2 number.toNat)) := by
  have served : ¬ ((s.bump (.mgmt .requestsTaken)).busy = true ∧ Request.abort.servedBusy = false) := by
    simp [Request.servedBusy]
  have fits : Request.abort.lengthOk (b :: bytesOf 2 number.toNat) = true := by
    rw [bytesOf_two]
    rfl
  refine congrArg Host.Outcome.next ?_
  rw [State.takeRequest, requestOf_code]
  dsimp only
  rw [if_neg served, if_pos fits]
  rfl

theorem State.doAbort_absent {s : State} {number : Word16} (absent : s.slotOf number = none) (h : Handed) :
    s.doAbort h (0x00 :: bytesOf 2 number.toNat) = s.answer h .abort .noSuch [] := by
  simp only [State.doAbort, natAt_number, List.getD_cons_zero, BitVec.ofNat_toNat, BitVec.setWidth_eq, if_true, absent]

theorem State.doAbort_one {s : State} {number : Word16} {i : Slot} (found : s.slotOf number = some i) (h : Handed) :
    s.doAbort h (0x00 :: bytesOf 2 number.toNat) =
      (State.retireNext s (State.settleKeying s (s.abortRecord i))).answer h .abort .done [] := by
  simp only [State.doAbort, natAt_number, List.getD_cons_zero, BitVec.ofNat_toNat, BitVec.setWidth_eq, if_true, found]

section
variable (s : State) (h : Handed)

theorem State.doAbort_all (bs : List Byte) :
    s.doAbort h (0x01 :: bs) = s.afterAbortAll.answer h .abort .done [] := by
  rw [State.afterAbortAll, State.abortedAll_eq]
  exact if_neg (by simp)

theorem State.doAbort_other {sel : Byte} (other : 1 < sel.toNat) (bs : List Byte) :
    s.doAbort h (sel :: bs) = s.answer h .abort .range [] := by
  have not_one : sel ≠ 0x00 := by rintro rfl; simp at other
  have not_all : sel ≠ 0x01 := by rintro rfl; simp at other
  simp only [State.doAbort, List.getD_cons_zero, if_neg not_one, if_neg not_all]

end

@[simp] theorem State.answer_record (s : State) (h : Handed) (q : Request) (res : Result) (data : List Byte) (i : Slot) :
    (s.answer h q res data).record i = s.record i :=
  State.record_of_table _ _ i (by
    obtain ⟨-, placed⟩ | ⟨-, silent⟩ := s.answer_cases h q res data
    · rw [placed, State.placeReply_table]
    · rw [silent])

@[simp] theorem State.answer_keying (s : State) (h : Handed) (q : Request) (res : Result) (data : List Byte) :
    (s.answer h q res data).keying = s.keying := by
  obtain ⟨-, placed⟩ | ⟨-, silent⟩ := s.answer_cases h q res data
  · rw [placed, State.placeReply_keying]
  · rw [silent]

/-! ### The abort of one record, and what the sequencer is owed -/

/-- The state after ABORT of the record in a slot, its answer left out. -/
def State.afterAbort (s : State) (i : Slot) : State := State.retireNext s (State.settleKeying s (s.abortRecord i))

theorem exec_abort_one {s : State} {number : Word16} {i : Slot} (found : s.slotOf number = some i) (h : Handed) :
    exec (.abort h (0x00 :: bytesOf 2 number.toNat)) s =
      .next (((s.bump (.mgmt .requestsTaken)).afterAbort i).answer h .abort .done []) := by
  have same : (s.bump (.mgmt .requestsTaken)).slotOf number = some i := found
  rw [exec_abort, State.doAbort_one same]
  rfl

section
variable {s : State} {i : Slot} {r : Record} (there : s.record i = some r)
include there

theorem State.afterAbort_shadow (shadow : r.state = .shadow) : s.afterAbort i = s := by
  have same : s.abortRecord i = s := by simp only [State.abortRecord, there, shadow]
  rw [State.afterAbort, same, State.settleKeying_of_same _ _ rfl rfl, State.retireNext_of_same _ _ fun _ => rfl]

theorem State.afterAbort_stopped (air : r.state = .onAir) (stopped : r.stop ≠ none) : s.afterAbort i = s := by
  have same : s.abortRecord i = s := by simp only [State.abortRecord, there, air, if_neg stopped]
  rw [State.afterAbort, same, State.settleKeying_of_same _ _ rfl rfl, State.retireNext_of_same _ _ fun _ => rfl]

/-- A stop set on the air changes no queue and no sequencer (R119). -/
theorem State.afterAbort_onAir (air : r.state = .onAir) (going : r.stop = none) :
    s.afterAbort i = s.setRecord i { r with stop := some { symbol := s.pacer.symbol, outcome := .aborted } } := by
  have stopping : s.abortRecord i =
      s.setRecord i { r with stop := some { symbol := s.pacer.symbol, outcome := .aborted } } := by
    simp only [State.abortRecord, there, air, if_pos going]
  have others : ∀ j, j ≠ i → (s.abortRecord i).record j = s.record j := fun j e => by
    rw [State.record_abortRecord, if_neg e]
  have now : (s.abortRecord i).record i = some { r with stop := some { symbol := s.pacer.symbol, outcome := .aborted } } := by
    rw [stopping, State.record_setRecord_same]
  have head : (s.abortRecord i).headReady = s.headReady := by
    refine State.headReady_of_unwaiting others (fun q held => ?_) fun q held => ?_
    · cases there.symm.trans held
      simp [Record.Waits, air]
    · cases now.symm.trans held
      simp [Record.Waits, air]
  have stays : State.holdEnds s (s.abortRecord i) = false := by
    refine State.holdEnds_without fun b _ _ => ⟨fun ready => ?_, fun was => head.trans was, fun p q new old => ?_⟩
    · obtain ⟨q, held, ready⟩ := (s.isReady_iff b).mp ready
      have other : b ≠ i := by
        rintro rfl
        cases there.symm.trans held
        simp [air] at ready
      exact (State.isReady_iff _ b).mpr ⟨q, (others b other).trans held, ready⟩
    · by_cases e : b = i
      · subst e
        cases now.symm.trans new
        cases there.symm.trans old
        rfl
      · cases (others b e).symm.trans new |>.symm.trans old
        rfl
  have settled := State.settleKeying_without s (s.abortRecord i) (by rw [stopping, State.setRecord_keying]) stays
  rw [State.afterAbort, settled, State.retireNext_of_isShadow fun j shadow => ?_, stopping]
  by_cases e : j = i
  · simp [State.isShadow, e, now, air] at shadow
  · rwa [State.isShadow, others j e] at shadow

/-- The abort of a waiting record that ends no HOLD leaves the sequencer as it is (R118, R146). -/
theorem State.afterAbort_waiting (waits : r.Waits) (stays : State.holdEnds s (s.becomeShadow i .aborted) = false) :
    s.afterAbort i = State.retireNext s (s.becomeShadow i .aborted) := by
  have dropped : r.droppedByAbort = true := by
    rw [Record.droppedByAbort_iff]
    rcases waits with e | e <;> simp [e]
  have unkeyed : r.state ≠ .keying := by rcases waits with e | e <;> simp [e]
  rw [State.afterAbort, State.abortRecord_dropped there dropped, State.dropRecord_other there unkeyed,
    State.settleKeying_without _ _ (State.becomeShadow_keying s i .aborted) stays]

omit there in
/-- Outside HOLD and after its bridge no HOLD ends; in HOLD the bridged record must stay the head READY one (R146). -/
theorem State.holdEnds_becomeShadow (o : BatchOutcome)
    (elsewhere : ∀ b, s.keying.bridged = some b → s.keying.current = none →
      b ≠ i ∧ (s.headReady ≠ some b ∨ (s.becomeShadow i o).headReady = some b)) :
    State.holdEnds s (s.becomeShadow i o) = false := by
  refine State.holdEnds_without fun b bridged idle => ?_
  rw [State.becomeShadow_keying] at bridged idle
  obtain ⟨other, head⟩ := elsewhere b bridged idle
  have same : (s.becomeShadow i o).record b = s.record b := (s.record_becomeShadow i b o).trans (if_neg other)
  refine ⟨fun ready => by rwa [State.isReady, same], fun was => head.resolve_left (· was), fun p q new old => ?_⟩
  cases (same.symm.trans new).symm.trans old
  rfl

section
variable {row : ModeRow} {rest : Sequencer} (keying : r.state = .keying)
  (from_where : (s.keying.state = .lead ∧ row = r.row ∧ rest = { s.keying with mod := r.row.rest, modstb := true })
    ∨ (s.keying.state = .hold ∧ s.keying.restRow = some row ∧ rest = s.keying)) (short : row.tail ≤ 1000000)
include keying from_where short

/-- A KEYING record aborted with no key-up reached: TAIL, or IDLE where its tail is 0 (R146 to R148). -/
theorem State.afterAbort_keying_quiet (quiet : ∀ j, s.keyUpReached j = false) :
    s.afterAbort i = State.retireNext s { s.becomeShadow i .aborted with
      keying := if row.tail = 0 then idleFor s.keying.txrdy else rest.inTail row s.time.clock } := by
  have dropped := State.dropRecord_keying there keying from_where .aborted
  have event := TailEntered.of_drop there keying from_where .aborted
  have entered : (s.dropRecord i .aborted).keying = rest.inTail row s.time.clock := by rw [dropped]
  rw [State.afterAbort, State.abortRecord_dropped there ((Record.droppedByAbort_iff r).mpr (by simp [keying])),
    event.settleKeying_quiet quiet, event.zeroTail_eq entered short, dropped]
  split <;> rfl

/-- A KEYING record aborted with the key-up of the head READY record come due: that record is decided (R139, R147). -/
theorem State.afterAbort_keying_due {q : Slot} {o : Record} (head : s.headReady = some q) (held : s.record q = some o)
    (due : o.keptKeyUp.diff s.time.clock ≤ 0) (ahead : 0 ≤ (o.launch.add (ticksOf o.inc o.j)).diff s.time.clock)
    (early : 0 < (r.nominalEnd.add s.store.settings.guard).diff s.time.clock) (tail : 1 ≤ row.tail) :
    Host.Outcome.next (s.afterAbort i) =
      exec (.keyUp q) { s.becomeShadow i .aborted with keying := rest.inTail row s.time.clock } := by
  have dropped := State.dropRecord_keying there keying from_where .aborted
  have event := TailEntered.of_drop there keying from_where .aborted
  have entered : (s.dropRecord i .aborted).keying = rest.inTail row s.time.clock := by rw [dropped]
  rw [State.afterAbort, State.abortRecord_dropped there ((Record.droppedByAbort_iff r).mpr (by simp [keying])),
    event.settled_eq_keyUp head held due ahead early (Or.inl (event.tailDone_of_pos entered short tail)), dropped]

end

end

/-! ### The abort of the bridged record -/

/-- The sequencer holds no bridge: it is not in HOLD and no record is bridged (R145, R146). -/
def Sequencer.Released (k : Sequencer) : Prop := k.bridged = none ∧ k.state ≠ .hold

theorem State.zeroTail_released {s : State} (released : s.keying.Released) : s.zeroTail.keying.Released := by
  unfold State.zeroTail
  split
  · rw [State.enterIdle_eq]
    exact ⟨rfl, by simp [idleFor]⟩
  · exact released

/-- A decision outside HOLD bridges nothing (R140, R141). -/
theorem State.decideIfDue_released {s : State} (released : s.keying.Released) : s.decideIfDue.keying.Released := by
  unfold State.decideIfDue
  split
  · exact released
  · next q head =>
    split
    · next due =>
      obtain ⟨o, there, -⟩ := (State.keyUpDue_iff s q).mp due
      rw [State.decideThenNext_keying]
      rcases State.keying_decideKeyUp there released.2 with ⟨-, same⟩ | ⟨-, -, bridged, hold, -⟩
      · rwa [same]
      · exact ⟨bridged, hold⟩
    · exact released

/-- The decision of the head READY record leaves a record that is not READY. -/
theorem State.record_decideIfDue_of_not_ready {s : State} {i : Slot} {r : Record} (there : s.record i = some r)
    (unready : r.state ≠ .ready) : s.decideIfDue.record i = some r := by
  unfold State.decideIfDue
  split
  · exact there
  · next q head =>
    split
    · rw [State.decideThenNext_record_other, there]
      rintro rfl
      exact unready (State.ready_of_headReady head there)
    · exact there

theorem State.zeroTail_record (s : State) (i : Slot) : s.zeroTail.record i = s.record i :=
  State.record_of_table _ _ i s.zeroTail_table

/-- The abort of the bridged record: HOLD ends before the decision, and the record is ABORTED (R118, R146). -/
theorem State.afterAbort_bridged {s : State} {i : Slot} {r : Record} {e : Instant} (there : s.record i = some r)
    (ready : r.state = .ready) (hold : s.keying.state = .hold) (idle : s.keying.current = none)
    (bridged : s.keying.bridged = some i) (ends : s.keying.endInstant = some e) :
    (s.afterAbort i).record i = some { r.unchained with state := .shadow, shadow := some .aborted }
      ∧ (s.afterAbort i).keying.Released := by
  have now := State.record_becomeShadow_live there (by simp [ready]) .aborted
  have left : (s.becomeShadow i .aborted).isReady i = false := by rw [State.isReady, now]; rfl
  have is_over : State.holdEnds s (s.becomeShadow i .aborted) = true := by
    refine State.holdEnds_of_unready (b := i) (e := e) ?_ ?_ ?_ ?_ ((s.isReady_iff i).mpr ⟨r, there, ready⟩) left <;>
      rwa [State.becomeShadow_keying]
  have tail : (s.becomeShadow i .aborted).tailFromHold.keying.state = .tail := rfl
  have aborted : s.abortRecord i = s.becomeShadow i .aborted := by
    rw [State.abortRecord_dropped there ((Record.droppedByAbort_iff r).mpr (by simp [ready])),
      State.dropRecord_other there (by simp [ready])]
  have settled : State.settleKeying s (s.abortRecord i) =
      (if State.keyUpStands s (s.becomeShadow i .aborted).tailFromHold then
        (s.becomeShadow i .aborted).tailFromHold.decideIfDue
      else (s.becomeShadow i .aborted).tailFromHold).zeroTail := by
    rw [aborted, State.settleKeying, if_pos is_over]
    exact State.afterTailEntry_entered (by simp [hold]) tail
  have released : (s.becomeShadow i .aborted).tailFromHold.keying.Released := ⟨rfl, by simp [tail]⟩
  constructor
  · have ended : (s.afterAbort i).record i = (State.settleKeying s (s.abortRecord i)).record i := rfl
    rw [ended, settled, State.zeroTail_record]
    split
    · exact State.record_decideIfDue_of_not_ready now (by simp)
    · exact now
  · have ended : (s.afterAbort i).keying = (State.settleKeying s (s.abortRecord i)).keying := rfl
    rw [ended, settled]
    refine State.zeroTail_released ?_
    split
    · exact State.decideIfDue_released released
    · exact released

end Sys2Proof.Machine
end

section
/-! SUPPORT. ABORT of one batch and of all batches, and O58 (R118, R119, R139, R146 to R148, R164; log 21, log 42). -/

namespace Sys2Proof.Machine

/-- The blocks released by the abort of some records are those of the records it drops, in their order (R101, R164). -/
theorem flatMap_freedByAbort (rs : List Record) :
    rs.flatMap Record.freedByAbort = (rs.filter Record.droppedByAbort).flatMap Record.blocks := by
  induction rs with
  | nil => rfl
  | cons r rs ih =>
    rw [List.flatMap_cons, ih, List.filter_cons, Record.freedByAbort]
    split <;> simp

/-- In LEAD a KEYING record takes the sequencer to TAIL with its own row (R148). -/
theorem Sequencer.afterAbort_lead {k : Sequencer} {r : Record} (lead : k.state = .lead) (keying : r.state = .keying)
    (now : Instant) : k.afterAbort now r = { k with mod := r.row.rest, modstb := true }.inTail r.row now := by
  rw [Sequencer.afterAbort, if_pos keying, lead]

/-- In HOLD a KEYING record takes the sequencer to TAIL with the row of the finished batch (R146). -/
theorem Sequencer.afterAbort_hold {k : Sequencer} {r : Record} {row : ModeRow} (hold : k.state = .hold)
    (rest : k.restRow = some row) (keying : r.state = .keying) (now : Instant) : k.afterAbort now r = k.inTail row now := by
  rw [Sequencer.afterAbort, if_pos keying, hold, rest]
  rfl

/-- HOLD with a KEYING record, or with its bridged record READY, ends for TAIL when every record is aborted (R146, R164). -/
theorem State.afterAbortAll_keying_hold {s : State} {row : ModeRow} (hold : s.keying.state = .hold)
    (rest : s.keying.restRow = some row) (tail : 1 ≤ row.tail) (short : row.tail ≤ 1000000)
    (ends : (∃ i r, s.record i = some r ∧ r.state = .keying)
      ∨ (s.keying.current = none ∧ s.keying.endInstant ≠ none ∧ ∃ b q, s.keying.bridged = some b
        ∧ s.record b = some q ∧ q.state = .ready)) :
    s.afterAbortAll.keying = s.keying.inTail row s.time.clock := by
  have left : row.tail ≠ 0 := by omega
  by_cases keyed : ∃ i r, s.record i = some r ∧ r.state = .keying
  · obtain ⟨i, r, there, keying⟩ := keyed
    rw [State.afterAbortAll_keying_keyed (by simp [hold]) there keying
      (fun j q _ q_keying => Sequencer.afterAbort_hold hold rest q_keying _) short, if_neg left]
  · obtain ⟨idle, ended, b, q, bridged, there, ready⟩ := ends.resolve_left keyed
    obtain ⟨e, instant⟩ := Option.ne_none_iff_exists'.mp ended
    rw [State.afterAbortAll_keying_bridged (fun i r there keying => keyed ⟨i, r, there, keying⟩) hold rest idle instant
      bridged there ready short, if_neg left]

/-- Settles O58: the state after one abort by the state of its record, and after all by the three things they change. -/
theorem abortActsByState : Obligations.AbortActsByState := by
  unfold Obligations.AbortActsByState
  intro s h number s1 n one all answered idle
  have all_eq : all = answered s1.afterAbortAll := (exec_abort s h 0x01 number).trans (by rw [State.doAbort_all])
  refine ⟨fun absent => ?_, fun i r found there => ?_, ?_, fun hold => ?_, fun row hold rest tail short ends => ?_,
    fun sel other => ?_⟩
  · have unknown : s1.slotOf number = none := absent
    exact (exec_abort s h 0x00 number).trans (by rw [State.doAbort_absent unknown])
  · have one_eq : one = answered (s1.afterAbort i) := exec_abort_one found h
    have here : s1.record i = some r := there
    intro shadowed tailed
    simp only [one_eq]
    refine ⟨fun shadow => ?_, fun air going => ?_, fun air stopped => ?_, fun waits elsewhere => ?_,
      fun b waits bridged other head => ?_, fun keying lead quiet tail short => ?_, fun keying lead quiet tail => ?_,
      fun b q u keying lead head held due ahead tail short early decided => ?_,
      fun row keying hold rest quiet tail short => ?_, fun ready hold free bridged ended => ?_⟩
    · rw [State.afterAbort_shadow here shadow]
    · rw [State.afterAbort_onAir here air going]
      rfl
    · rw [State.afterAbort_stopped here air stopped]
    · refine congrArg answered (State.afterAbort_waiting here waits ?_)
      rcases elsewhere with outside | current
      · exact State.holdEnds_outside_hold _ _ (by rwa [State.becomeShadow_keying])
      · exact State.holdEnds_becomeShadow .aborted fun _ _ none_current => absurd none_current current
    · refine congrArg answered (State.afterAbort_waiting here waits (State.holdEnds_becomeShadow .aborted fun c same _ => ?_))
      cases bridged.symm.trans same
      exact ⟨other, head⟩
    · rw [State.afterAbort_keying_quiet here keying (Or.inl ⟨lead, rfl, rfl⟩) short quiet, if_neg (by omega)]
      rfl
    · rw [State.afterAbort_keying_quiet here keying (Or.inl ⟨lead, rfl, rfl⟩) (by omega) quiet, if_pos tail]
      rfl
    · have settled := State.afterAbort_keying_due here keying (Or.inl ⟨lead, rfl, rfl⟩) short head held due ahead early tail
      exact congrArg answered (Host.Outcome.next.inj (settled.trans decided))
    · rw [State.afterAbort_keying_quiet here keying (Or.inr ⟨hold, rest, rfl⟩) short quiet, if_neg (by omega),
        Sequencer.inTail_own (k := s1.keying) rest]
      rfl
    · obtain ⟨e, instant⟩ := Option.ne_none_iff_exists'.mp ended
      obtain ⟨record, released⟩ := State.afterAbort_bridged here ready hold free bridged instant
      refine ⟨_, rfl, ?_, ?_, ?_⟩
      · rw [State.answer_record, record]
        rfl
      · rw [State.answer_keying]
        exact released.1
      · rw [State.answer_keying]
        exact released.2
  · rw [all_eq, State.afterAbortAll, State.abortedAll_eq]
  · refine ⟨s1.afterAbortAll, all_eq, fun i => s1.record_afterAbortAll i,
      fun lead => State.afterAbortAll_keying_elsewhere lead hold, fun i r lead there keying only short => ?_, ?_, ?_⟩
    · refine State.afterAbortAll_keying_keyed (s := s1) (k := { s.keying with mod := r.row.rest, modstb := true })
        (by simp [s1, lead]) there keying (fun j q held q_keying => ?_) short
      cases only j q held q_keying
      cases there.symm.trans held
      exact Sequencer.afterAbort_lead lead keying _
    · have frame := s1.afterAbortAll_frame
      rw [flatMap_freedByAbort] at frame
      exact frame
    · obtain ⟨cs, pending, events⟩ := s1.afterAbortAll_pending
      refine ⟨cs, pending, fun c => (events c).trans ?_⟩
      simp only [Record.droppedByAbort_iff, and_assoc]
      rfl
  · refine ⟨_, all_eq, ?_⟩
    exact (State.afterAbortAll_keying_hold (s := s1) hold rest tail short ends).trans (Sequencer.inTail_own rest _)
  · exact (exec_abort s h sel number).trans (by rw [State.doAbort_other _ _ other])

end Sys2Proof.Machine
end

section
/-! SUPPORT. The two laws of the sequencer, by what they read of a state: the work of each slot, and seven fields of the
sequencer. A move that keeps both laws, and the moves of one record or of the sequencer alone that are such (R107, R137,
R138). -/

namespace Sys2Proof.Machine

/-! ### The work of a slot (R107) -/

/-- The state of a record on which the sequencer works; none for any other (R107). -/
def Record.work (r : Record) : Option RecordState := if r.state = .keying ∨ r.state = .onAir then some r.state else none

/-- The state of the record in a slot on which the sequencer works. -/
def State.workAt (s : State) (i : Slot) : Option RecordState := (s.record i).bind Record.work

theorem Record.work_of_state {q r : Record} (h : q.state = r.state) : q.work = r.work := by
  simp only [Record.work, h]

theorem Record.work_eq_none_iff (r : Record) : r.work = none ↔ ¬ r.keyed := by
  unfold Record.work Record.keyed
  split <;> simp [*]

theorem Record.work_of_keying {r : Record} (h : r.state = .keying) : r.work = some .keying := by simp [Record.work, h]

theorem Record.work_of_onAir {r : Record} (h : r.state = .onAir) : r.work = some .onAir := by simp [Record.work, h]

/-- The sequencer does not work on a record that waits (R108). -/
theorem Record.work_of_waits {r : Record} (h : r.Waits) : r.work = none := by
  rcases h with e | e <;> simp [Record.work, e]

theorem Record.work_of_shadow {r : Record} (h : r.state = .shadow) : r.work = none := by simp [Record.work, h]

theorem State.workAt_of_record {s : State} {i : Slot} {r : Record} (there : s.record i = some r) : s.workAt i = r.work := by
  simp [State.workAt, there]

theorem State.workAt_of_vacant {s : State} {i : Slot} (vacant : s.record i = none) : s.workAt i = none := by
  simp [State.workAt, vacant]

theorem State.workAt_of_table {s t : State} (h : t.table = s.table) (i : Slot) : t.workAt i = s.workAt i := by
  simp only [State.workAt, State.record, h]

theorem Record.work_eq_some_iff (r : Record) {c : RecordState} (at_work : c = .keying ∨ c = .onAir) :
    r.work = some c ↔ r.state = c := by
  rcases at_work with rfl | rfl <;> cases state : r.state <;> simp [Record.work, state]

theorem State.workAt_eq_some_iff (s : State) (i : Slot) {c : RecordState} (at_work : c = .keying ∨ c = .onAir) :
    s.workAt i = some c ↔ s.inState i c := by
  simp only [State.workAt, State.inState, Option.bind_eq_some_iff, Record.work_eq_some_iff _ at_work]

theorem State.workAt_setRecord (s : State) (i j : Slot) (r : Record) :
    (s.setRecord i r).workAt j = if j = i then r.work else s.workAt j := by
  rw [State.workAt, State.record_setRecord]
  split <;> rfl

theorem State.workAt_freeSlot (s : State) (i j : Slot) :
    (s.freeSlot i).workAt j = if j = i then none else s.workAt j := by
  rw [State.workAt, State.record_freeSlot]
  split <;> rfl

theorem State.workAt_clearDependents (s : State) (i : Slot) : s.clearDependents.workAt i = s.workAt i := by
  rw [State.workAt, State.record_clearDependents, State.workAt]
  cases s.record i <;> rfl

/-- A record that becomes SHADOW is worked on no more (R107). -/
theorem State.workAt_becomeShadow (s : State) (i j : Slot) (o : BatchOutcome) :
    (s.becomeShadow i o).workAt j = if j = i then none else s.workAt j := by
  rw [State.workAt, State.record_becomeShadow]
  split
  · cases s.record i with
    | none => rfl
    | some r =>
      simp only [Option.map_some, Option.bind_some]
      split
      · next shadow => exact Record.work_of_shadow shadow
      · exact Record.work_of_shadow rfl
  · rfl

/-! ### The tie, read off the work of the slots -/

/-- The tie in terms of the work of the slots (R107, R137). -/
theorem sequencerTied_iff (s : State) : SequencerTied s ↔
    (∀ i, s.workAt i ≠ none → s.keying.current = some i)
      ∧ match s.keying.state with
        | .idle => s.keying.current = none ∧ s.keying.bridged = none
        | .tail => s.keying.current = none ∧ s.keying.bridged = none
        | .lead => s.keying.bridged = none ∧ ∃ i, s.keying.current = some i ∧ s.workAt i = some .keying
        | .symbols => s.keying.bridged = none ∧ ∃ i, s.keying.current = some i ∧ s.workAt i = some .onAir
        | .hold =>
          (s.keying.current = none ∧ s.keying.bridged.isSome = true)
            ∨ (s.keying.bridged = none ∧ ∃ i, s.keying.current = some i ∧ s.workAt i = some .keying) := by
  have worked : (∀ i, s.workAt i ≠ none → s.keying.current = some i) ↔
      ∀ i r, s.record i = some r → r.keyed → s.keying.current = some i := by
    refine forall_congr' fun i => ?_
    cases there : s.record i with
    | none => simp [State.workAt, there]
    | some r => simp [State.workAt, there, Record.work_eq_none_iff]
  have shaped : SequencerTied s ↔
      (∀ i r, s.record i = some r → r.keyed → s.keying.current = some i) ∧ SequencerShape s :=
    ⟨fun h => ⟨h.current, h.shape⟩, fun h => ⟨h.1, h.2⟩⟩
  rw [shaped, worked, SequencerShape]
  cases s.keying.state <;>
    simp only [s.workAt_eq_some_iff _ (Or.inl rfl), s.workAt_eq_some_iff _ (Or.inr rfl)]

namespace SequencerTied

/-- The tie reads the work of the slots, and of the sequencer its state and its two records. -/
theorem congr {s t : State} (hs : SequencerTied s) (work : ∀ i, t.workAt i = s.workAt i)
    (state : t.keying.state = s.keying.state) (current : t.keying.current = s.keying.current)
    (bridged : t.keying.bridged = s.keying.bridged) : SequencerTied t := by
  rw [sequencerTied_iff] at hs ⊢
  simpa only [work, state, current, bridged] using hs

/-- The one record at work is the current one. -/
theorem current_of_work {s : State} (hs : SequencerTied s) {i : Slot} (work : s.workAt i ≠ none) :
    s.keying.current = some i :=
  ((sequencerTied_iff s).mp hs).1 i work

/-- No other record is at work. -/
theorem idle_others {s : State} (hs : SequencerTied s) {i : Slot} (current : s.keying.current = some i) :
    ∀ j, j ≠ i → s.workAt j = none := fun _ other =>
  by_contra fun work => other (Option.some.inj ((hs.current_of_work work).symm.trans current))

theorem idle_all {s : State} (hs : SequencerTied s) (current : s.keying.current = none) : ∀ i, s.workAt i = none :=
  fun i => by_contra fun work => by simpa [current] using hs.current_of_work work

theorem current_none {s : State} (hs : SequencerTied s) (state : s.keying.state = .idle ∨ s.keying.state = .tail) :
    s.keying.current = none := by
  have shape := ((sequencerTied_iff s).mp hs).2
  rcases state with e | e <;> rw [e] at shape <;> exact shape.1

/-- A KEYING record is worked on in LEAD or HOLD (R137). -/
theorem state_of_keying {s : State} (hs : SequencerTied s) {i : Slot} (keying : s.workAt i = some .keying) :
    s.keying.state = .lead ∨ s.keying.state = .hold := by
  have current : s.keying.current = some i := hs.current_of_work (by simp [keying])
  have shape := ((sequencerTied_iff s).mp hs).2
  cases state : s.keying.state with
  | lead => exact Or.inl rfl
  | hold => exact Or.inr rfl
  | idle | tail => simp [state, current] at shape
  | symbols => simp [state, current, keying] at shape

/-- No record at work: IDLE, TAIL, or HOLD for a bridged one (R137). -/
theorem of_none {t : State} (work : ∀ i, t.workAt i = none) (current : t.keying.current = none)
    (shape : ((t.keying.state = .idle ∨ t.keying.state = .tail) ∧ t.keying.bridged = none)
      ∨ (t.keying.state = .hold ∧ t.keying.bridged.isSome = true)) : SequencerTied t := by
  refine (sequencerTied_iff t).mpr ⟨fun i at_work => absurd (work i) at_work, ?_⟩
  rcases shape with ⟨e | e, bridged⟩ | ⟨e, bridged⟩
  · simp only [e]
    exact ⟨current, bridged⟩
  · simp only [e]
    exact ⟨current, bridged⟩
  · simp only [e]
    exact Or.inl ⟨current, bridged⟩

/-- One record at work, the current one: KEYING in LEAD or HOLD, ON_AIR in SYMBOLS (R137). -/
theorem of_one {t : State} {i : Slot} (others : ∀ j, j ≠ i → t.workAt j = none) (current : t.keying.current = some i)
    (bridged : t.keying.bridged = none)
    (shape : (t.workAt i = some .keying ∧ (t.keying.state = .lead ∨ t.keying.state = .hold))
      ∨ (t.workAt i = some .onAir ∧ t.keying.state = .symbols)) : SequencerTied t := by
  refine (sequencerTied_iff t).mpr ⟨fun j at_work => ?_, ?_⟩
  · rw [current]
    exact congrArg some (by_contra fun other => at_work (others j (Ne.symm other)))
  · rcases shape with ⟨keying, e | e⟩ | ⟨air, e⟩
    · simp only [e]
      exact ⟨bridged, i, current, keying⟩
    · simp only [e]
      exact Or.inr ⟨bridged, i, current, keying⟩
    · simp only [e]
      exact ⟨bridged, i, current, air⟩

end SequencerTied

/-! ### A move that keeps both laws -/

/-- The rest level of the rest row stands on MOD (R138). -/
def Sequencer.AtRest (k : Sequencer) : Prop := ∃ row, k.restRow = some row ∧ k.mod = row.rest

/-- A move after which each law of the sequencer holds where it held before. -/
structure SequencerKept (s t : State) : Prop where
  tied : SequencerTied s → SequencerTied t
  port : PortSound s → PortSound t

namespace SequencerKept

theorem refl (s : State) : SequencerKept s s := ⟨id, id⟩

theorem trans {s u t : State} (h : SequencerKept s u) (h' : SequencerKept u t) : SequencerKept s t :=
  ⟨h'.tied ∘ h.tied, h'.port ∘ h.port⟩

theorem ite {s t u : State} {p : Prop} [Decidable p] (ht : SequencerKept s t) (hu : SequencerKept s u) :
    SequencerKept s (if p then t else u) := by
  split
  · exact ht
  · exact hu

theorem foldl {α : Type} {f : State → α → State} (hf : ∀ s a, SequencerKept s (f s a)) (xs : List α) (s : State) :
    SequencerKept s (xs.foldl f s) := by
  induction xs generalizing s with
  | nil => exact refl s
  | cons x xs ih => exact (hf s x).trans (ih (f s x))

/-- The strobe and TXRDY are no matter of either law. -/
theorem of_pins {s t : State} (work : ∀ i, t.workAt i = s.workAt i) {strobe ready : Bool}
    (keying : t.keying = { s.keying with modstb := strobe, txrdy := ready }) : SequencerKept s t where
  tied hs := hs.congr work (by rw [keying]) (by rw [keying]) (by rw [keying])
  port hs := ⟨by simpa only [keying] using hs.idle, by simpa only [keying] using hs.rest⟩

/-- A move that leaves the sequencer and the work of every slot. -/
theorem of_work {s t : State} (work : ∀ i, t.workAt i = s.workAt i) (keying : t.keying = s.keying) : SequencerKept s t :=
  of_pins work (strobe := s.keying.modstb) (ready := s.keying.txrdy) keying

/-- A move that leaves the sequencer and the table. -/
theorem aside {s t : State} (table : t.table = s.table) (keying : t.keying = s.keying) : SequencerKept s t :=
  of_work (State.workAt_of_table table) keying

/-- A move out of a state that has the table and the sequencer of another. -/
theorem via {s u t : State} (h : SequencerKept u t) (table : u.table = s.table) (keying : u.keying = s.keying) :
    SequencerKept s t :=
  (aside table keying).trans h

/-! ### Moves of one record -/

theorem setRecord {s : State} {i : Slot} {r : Record} (work : r.work = s.workAt i) : SequencerKept s (s.setRecord i r) := by
  refine of_work (fun j => ?_) rfl
  rw [State.workAt_setRecord]
  split
  · next here => rw [work, here]
  · rfl

/-- A record changed in place, its state kept. -/
theorem setRecord_from {s : State} {i : Slot} {q r : Record} (there : s.record i = some q) (state : r.state = q.state) :
    SequencerKept s (s.setRecord i r) :=
  setRecord ((Record.work_of_state state).trans (State.workAt_of_record there).symm)

theorem clearDependents (s : State) : SequencerKept s s.clearDependents := of_work s.workAt_clearDependents rfl

theorem becomeShadow {s : State} {i : Slot} (unworked : s.workAt i = none) (o : BatchOutcome) :
    SequencerKept s (s.becomeShadow i o) := by
  refine of_work (fun j => ?_) (State.becomeShadow_keying s i o)
  rw [State.workAt_becomeShadow]
  split
  · next here => rw [here, unworked]
  · rfl

theorem retire {s : State} {i : Slot} (unworked : s.workAt i = none) (r : Record) (o : BatchOutcome) :
    SequencerKept s (s.retire i r o) := by
  refine of_work (fun j => ?_) rfl
  rw [State.workAt, State.record_retire]
  split
  · next here =>
    rw [here, unworked]
    rfl
  · rfl

theorem retireShadow (s : State) (i : Slot) : SequencerKept s (s.retireShadow i) := by
  unfold State.retireShadow
  split
  · exact refl s
  · next r there =>
    split
    · next shadow _ => exact retire ((State.workAt_of_record there).trans (Record.work_of_shadow shadow)) r _
    · exact refl s

/-! ### Moves of the sequencer -/

/-- The current record is left: no slot is at work, and the sequencer is in TAIL or holds for a bridged record, the rest level
on MOD (R137, R138). -/
theorem leave {s t : State} {i : Slot} (mine : SequencerTied s → s.keying.current = some i)
    (work : ∀ j, t.workAt j = if j = i then none else s.workAt j) (current : t.keying.current = none)
    (shape : (t.keying.state = .tail ∧ t.keying.bridged = none)
      ∨ (t.keying.state = .hold ∧ t.keying.bridged.isSome = true))
    (rest : PortSound s → t.keying.AtRest) : SequencerKept s t where
  tied hs := by
    refine .of_none (fun _ => ?_) current (shape.imp_left fun ⟨tail, bridged⟩ => ⟨Or.inr tail, bridged⟩)
    rw [work]
    split
    · rfl
    · next other => exact hs.idle_others (mine hs) _ other
  port hs := ⟨fun idle => by rcases shape with ⟨e, -⟩ | ⟨e, -⟩ <;> simp [e] at idle, fun _ => rest hs⟩

/-- HOLD for a bridged record ends for TAIL (R146). -/
theorem tailFromHold {s : State} (hold : s.keying.state = .hold) (current : s.keying.current = none) :
    SequencerKept s s.tailFromHold where
  tied hs := .of_none (fun i => hs.idle_all current i) rfl (Or.inl ⟨Or.inr rfl, rfl⟩)
  port hs := by
    obtain ⟨row, restRow, level⟩ := hs.rest (Or.inr (Or.inl hold))
    rw [State.tailFromHold_eq restRow]
    exact ⟨by simp [Sequencer.inTail], fun _ => ⟨row, rfl, level⟩⟩

/-- TAIL ends in IDLE (R147). -/
theorem enterIdle {s : State} (tail : s.keying.state = .tail) : SequencerKept s s.enterIdle where
  tied hs := .of_none (fun i => hs.idle_all (hs.current_none (Or.inr tail)) i) rfl (Or.inl ⟨Or.inl rfl, rfl⟩)
  port _ := ⟨fun _ => rfl, by simp [State.enterIdle_eq, idleFor]⟩

theorem zeroTail (s : State) : SequencerKept s s.zeroTail := by
  unfold State.zeroTail
  split
  · next done => exact enterIdle ((State.tailDone_iff s).mp done).1
  · exact refl s

/-- A restart: the table is empty and the sequencer is in IDLE, 0 on MOD (R122, R152). -/
theorem restart {s t : State} (empty : t.table = Vector.replicate Config.slots none) {ready : Bool}
    (keying : t.keying = idleSequencer ready) : SequencerKept s t where
  tied _ := .of_none (fun i => State.workAt_of_vacant (State.record_of_empty empty i)) (by rw [keying]; rfl)
    (Or.inl (by rw [keying]; exact ⟨Or.inl rfl, rfl⟩))
  port _ := by
    constructor <;> rw [keying] <;> simp [idleSequencer]

end SequencerKept

end Sys2Proof.Machine
end

section
/-! SUPPORT. The operations of keying, of the batch table and of the conflict resolver keep both laws of the sequencer (R107,
R124, R137 to R149). -/

namespace Sys2Proof.Machine

namespace SequencerKept

/-! ### What touches neither the table nor the sequencer -/

theorem bump (s : State) (c : Counter) : SequencerKept s (s.bump c) := aside rfl rfl
theorem latch (s : State) (a : Alarm) : SequencerKept s (s.latch a) := aside rfl rfl
theorem follow (s : State) (cs : List Instr) : SequencerKept s (s.follow cs) := aside rfl rfl
theorem retireNext (before s : State) : SequencerKept s (State.retireNext before s) := follow s _
theorem considerNext (s : State) : SequencerKept s s.considerNext := follow s _

/-! ### The key-up decision (R139 to R141, R145, R148) -/

/-- A record that is dropped is not ON_AIR; a KEYING one takes the sequencer to TAIL (R146, R148). -/
theorem dropRecord {s : State} {i : Slot} (earth : s.workAt i ≠ some .onAir) (o : BatchOutcome) :
    SequencerKept s (s.dropRecord i o) := by
  cases there : s.record i with
  | none =>
    simp only [State.dropRecord, there]
    exact refl s
  | some r =>
    have work := State.workAt_of_record there
    by_cases keying : r.state = .keying
    · rw [Record.work_of_keying keying] at work
      have gone := s.workAt_becomeShadow i
      unfold State.dropRecord
      simp only [there, keying]
      split
      · exact leave (fun hs => hs.current_of_work (by simp [work])) (fun j => gone j o) rfl (Or.inl ⟨rfl, rfl⟩)
          fun _ => ⟨r.row, rfl, rfl⟩
      · next hold =>
        refine leave (fun hs => hs.current_of_work (by simp [work])) (fun j => gone j o) rfl (Or.inl ⟨rfl, rfl⟩)
          fun hs => ?_
        obtain ⟨row, restRow, level⟩ := hs.rest (Or.inr (Or.inl hold))
        rw [State.tailFromHold_eq (row := row) (by rw [State.becomeShadow_keying, restRow])]
        exact ⟨row, rfl, by simpa [Sequencer.inTail] using level⟩
      · next lead hold =>
        refine ⟨fun hs => ?_, fun hs => ⟨by simpa using hs.idle, by simpa using hs.rest⟩⟩
        exact ((hs.state_of_keying work).elim (lead rfl) (hold rfl)).elim
    · rw [State.dropRecord_other there keying]
      refine becomeShadow ?_ o
      rw [work, Record.work_eq_none_iff]
      rintro (e | e)
      · exact keying e
      · exact earth (work.trans (Record.work_of_onAir e))

/-- The symbols of a KEYING record start (R141). -/
theorem startSymbols {s : State} {i : Slot} (keying : s.workAt i = some .keying) : SequencerKept s (s.startSymbols i) := by
  unfold State.startSymbols
  split
  · exact refl s
  · next r there =>
    have work := s.workAt_setRecord i
    refine ⟨fun hs => ?_, fun _ => ⟨by simp [State.put], by simp [State.put]⟩⟩
    refine .of_one (i := i) (fun j other => ?_) rfl rfl (Or.inr ⟨?_, rfl⟩)
    · exact (work j _).trans ((if_neg other).trans (hs.idle_others (hs.current_of_work (by simp [keying])) j other))
    · exact (work i _).trans ((if_pos rfl).trans (Record.work_of_onAir rfl))

/-- A record that passes the decision becomes the current one, from IDLE, TAIL, or its own HOLD (R140). -/
theorem becomeKeying {s : State} {i : Slot} (decides : s.canDecide i = true) (r : Record) :
    SequencerKept s (s.becomeKeying i r) := by
  have work := s.workAt_setRecord i
  have idle : SequencerTied s → ∀ j, s.workAt j = none := fun hs => by
    refine hs.idle_all ?_
    rcases (s.canDecide_iff i).mp decides with e | e | ⟨-, -, current⟩
    · exact hs.current_none (Or.inl e)
    · exact hs.current_none (Or.inr e)
    · exact current
  have one : SequencerTied s → ∀ k : Sequencer, k.current = some i → k.bridged = none → k.state = .lead ∨ k.state = .hold →
      SequencerTied { s.setRecord i { r with state := .keying } with keying := k } := fun hs k current bridged state =>
    .of_one (fun j other => (work j _).trans ((if_neg other).trans (idle hs j))) current bridged
      (Or.inl ⟨(work i _).trans ((if_pos rfl).trans (Record.work_of_keying rfl)), state⟩)
  by_cases hold : s.keying.state = .hold
  · rw [State.becomeKeying_hold hold]
    exact ⟨fun hs => one hs _ rfl rfl (Or.inr hold), fun hs => ⟨hs.idle, hs.rest⟩⟩
  · rw [State.becomeKeying_lead hold]
    exact ⟨fun hs => one hs _ rfl rfl (Or.inl rfl), fun _ => ⟨by simp [leadFor], fun _ => ⟨r.row, rfl, rfl⟩⟩⟩

/-- A refusal: in HOLD the decision was that of the bridged record, so TAIL is entered (R145). -/
theorem refuseKeyUp {s : State} {i : Slot} (unworked : s.workAt i = none) (decides : s.canDecide i = true)
    (o : BatchOutcome) : SequencerKept s (s.refuseKeyUp i o) := by
  have dropped := becomeShadow unworked o
  unfold State.refuseKeyUp
  dsimp only
  split
  · next hold =>
    have current : s.keying.current = none := by
      rcases (s.canDecide_iff i).mp decides with e | e | ⟨-, -, current⟩
      · simp [hold] at e
      · simp [hold] at e
      · exact current
    exact dropped.trans ((tailFromHold (by simpa using hold) (by simpa using current)).trans (zeroTail _))
  · exact dropped

theorem decideKeyUp {s : State} {i : Slot} (unworked : s.workAt i = none) (decides : s.canDecide i = true) :
    SequencerKept s (s.decideKeyUp i) := by
  have refused : ∀ a o, SequencerKept s ((s.latch a).refuseKeyUp i o) := fun a o =>
    (latch s a).trans (refuseKeyUp (s := s.latch a) unworked decides o)
  unfold State.decideKeyUp
  split
  · exact refl s
  · next r there =>
    refine ite (refused _ _) (ite (refused _ _) ?_)
    have now : (s.becomeKeying i r).workAt i = some .keying := by
      rw [State.workAt_of_record ((GuardedMove.becomeKeying_record s i r i).trans (if_pos rfl))]
      exact Record.work_of_keying rfl
    have keyed := becomeKeying decides r
    dsimp only
    split
    · refine keyed.trans ((latch _ _).trans (SequencerKept.trans (dropRecord ?_ _) (zeroTail _)))
      exact fun air => absurd (now.symm.trans air) (by simp)
    · next img _ =>
      have held : SequencerKept s { s.becomeKeying i r with
          pacer := { acc := 0, symbol := r.j, block := some img, next := none } } := keyed.trans (aside rfl rfl)
      exact ite (held.trans (startSymbols now)) held

/-- A decision that is due is of a READY record, and the sequencer can make it (R139). -/
theorem decideKeyUp_of_due {s : State} {i : Slot} (due : s.keyUpDue i = true) : SequencerKept s (s.decideKeyUp i) := by
  obtain ⟨r, there, ready, -, -, -, decides⟩ := (State.keyUpDue_iff s i).mp due
  exact decideKeyUp ((State.workAt_of_record there).trans (Record.work_of_waits (Or.inr ready)))
    ((s.canDecide_iff i).mpr decides)

theorem decideWhenDue (s : State) (i : Slot) : SequencerKept s (if s.keyUpDue i then s.decideThenNext i else s) := by
  split
  · next due =>
    have decided := decideKeyUp_of_due due
    exact ite (decided.trans (considerNext _)) decided
  · exact refl s

theorem decideIfDue (s : State) : SequencerKept s s.decideIfDue := by
  unfold State.decideIfDue
  split
  · exact refl s
  · exact decideWhenDue s _

/-! ### What an event owes the sequencer (R146, R147) -/

theorem afterTailEntry (before s : State) : SequencerKept s (State.afterTailEntry before s) :=
  ite ((ite (decideIfDue s) (refl s)).trans (zeroTail _)) (refl s)

/-- HOLD ends early while it has no current record (R146). -/
theorem current_none_of_holdEnds {before s : State} (ends : State.holdEnds before s = true) :
    s.keying.state = .hold ∧ s.keying.current = none := by
  unfold State.holdEnds at ends
  split at ends
  · next hold current _ _ => exact ⟨hold, current⟩
  · cases ends

theorem settleKeying (before s : State) : SequencerKept s (State.settleKeying before s) := by
  refine SequencerKept.trans ?_ (afterTailEntry before _)
  split
  · next ends =>
    obtain ⟨hold, current⟩ := current_none_of_holdEnds ends
    exact tailFromHold hold current
  · exact refl s

/-! ### The pacer (R103, R141 to R144, R149) -/

theorem readOnAir {s : State} {i : Slot} {r : Record} (there : s.record i = some r) (b : Nat) :
    SequencerKept s (s.readOnAir i r b) := by
  unfold State.readOnAir
  split
  · exact aside rfl rfl
  · exact (latch s _).trans (setRecord_from (q := r) there rfl)

theorem readBeforeLaunch {s : State} {i : Slot} (earth : s.workAt i ≠ some .onAir) (r : Record) (b : Nat) :
    SequencerKept s (s.readBeforeLaunch i r b) := by
  unfold State.readBeforeLaunch
  split
  · exact aside rfl rfl
  · exact (latch s _).trans ((dropRecord (s := s.latch .store) earth _).trans (settleKeying s _))

/-- TAIL entered with the row of the current record, once that record is at work no more (R147, R149). -/
theorem tailAfter {s t : State} {i : Slot} (current : s.keying.current = some i)
    (work : ∀ j, t.workAt j = if j = i then none else s.workAt j) (row : ModeRow) : SequencerKept s (t.enterTail row true) :=
  leave (fun _ => current) work rfl (Or.inl ⟨rfl, rfl⟩) fun _ => ⟨row, rfl, rfl⟩

theorem endOfSymbols {s : State} {i : Slot} (current : s.keying.current = some i) (r : Record) :
    SequencerKept s (s.endOfSymbols i r) := by
  have work : ∀ j, (s.retire i r r.airOutcome).workAt j = if j = i then none else s.workAt j := s.workAt_freeSlot i
  have tail := (tailAfter current work r.row).trans (afterTailEntry s _)
  unfold State.endOfSymbols
  dsimp only
  split
  · exact tail
  · refine ite (SequencerKept.trans ?_ (decideWhenDue _ _)) tail
    exact leave (fun _ => current) work rfl (Or.inr ⟨rfl, rfl⟩) fun _ => ⟨r.row, rfl, rfl⟩

/-- In SYMBOLS a word goes out and the record on the air stays so (R142). -/
theorem nextSymbol {s : State} {i : Slot} {r : Record} (symbols : s.keying.state = .symbols) (there : s.record i = some r) :
    SequencerKept s (s.nextSymbol i r) := by
  have counted : SequencerKept s (s.setRecord i { r with sent := r.sent + 1 }) := setRecord_from (q := r) there rfl
  refine ⟨fun hs => (counted.tied hs).congr (fun _ => rfl) rfl rfl rfl, fun _ => ?_⟩
  have still : (s.nextSymbol i r).keying.state = .symbols := symbols
  exact ⟨by simp [still], by simp [still]⟩

theorem carry {s : State} (symbols : s.keying.state = .symbols) : SequencerKept s s.carry := by
  have taken : SequencerKept s s.takeCarry := aside rfl rfl
  unfold State.carry
  split
  · exact refl s
  · next i current =>
    split
    · exact refl s
    · next r there =>
      have onward : SequencerKept s (if r.k ≤ s.pacer.symbol + 1 then s.takeCarry.endOfSymbols i r
          else s.takeCarry.nextSymbol i r) :=
        taken.trans (ite (endOfSymbols (s := s.takeCarry) current r) (nextSymbol (s := s.takeCarry) symbols there))
      have stopped : ∀ o, SequencerKept s (s.takeCarry.stopRecord i r o) := fun o =>
        taken.trans ((tailAfter (s := s.takeCarry) current (s.takeCarry.workAt_becomeShadow i · o) r.row).trans
          (afterTailEntry _ _))
      dsimp only
      split
      · exact ite (stopped _) onward
      · exact onward

/-! ### The batch table (R92, R109 to R113) -/

theorem deadlineActs {s : State} {i : Slot} (unworked : s.workAt i = none) : SequencerKept s (s.deadlineActs i) := by
  unfold State.deadlineActs
  split
  · exact refl s
  · next r there => exact ite (becomeShadow unworked _) (setRecord_from (q := r) there rfl)

theorem completeRecord (s : State) (i : Slot) : SequencerKept s (s.completeRecord i) := by
  unfold State.completeRecord
  split
  · exact refl s
  · next r there =>
    split
    · next complete =>
      have unworked : s.workAt i = none := (State.workAt_of_record there).trans (Record.work_of_waits (Or.inl complete.1))
      have ready : ∀ q : Record, q.state = .ready → SequencerKept s (s.setRecord i q) := fun q e =>
        setRecord ((Record.work_of_waits (Or.inr e)).trans unworked.symm)
      exact ite (ite (becomeShadow unworked _) (ready _ rfl)) (ready _ rfl)
    · exact refl s

theorem takeSwitch (s : State) : SequencerKept s s.takeSwitch := by
  unfold State.takeSwitch
  split
  · exact refl s
  · exact (clearDependents _).via rfl rfl

/-! ### The conflict resolver (R124 to R132) -/

/-- A trim leaves the state of the loser. -/
theorem state_trimmed (guard margin : Nat) (w l : Record) :
    (if headWinner w l then headTrim guard margin w l else tailTrim guard w l).state = l.state := by
  split
  · exact (GuardedMove.headTrim_keeps guard margin w l).1
  · exact (GuardedMove.tailTrim_keeps guard w l).1

theorem trimWaiting {s : State} {i : Slot} {l : Record} (there : s.record i = some l) (earth : l.state ≠ .onAir)
    (guard : Nat) (w : Record) : SequencerKept s (s.trimWaiting guard i w l) := by
  have state := state_trimmed guard s.store.settings.setupMargin w l
  have trimmed := setRecord_from there state
  refine ite (refl s) (ite (trimmed.trans (dropRecord ?_ _)) trimmed)
  rw [State.workAt_setRecord, if_pos rfl, Record.work, state]
  split <;> simp [earth]

/-- A loser is trimmed, or its winner dropped where it is on the air; that winner is then not at work (R127 to R132). -/
theorem trim {s : State} {i : Slot} {l : Record} (there : s.record i = some l) (guard : Nat) {iw : Slot} (w : Record)
    (unworked : l.state = .onAir → s.workAt iw = none) : SequencerKept s (s.trim guard i iw w l) := by
  unfold State.trim
  split
  · exact refl s
  · next air =>
    have dropped := becomeShadow (unworked air) .droppedLate
    exact ite (ite dropped (refl s)) (ite (refl s) (ite (setRecord_from (q := l) there rfl) dropped))
  all_goals
    next state => exact trimWaiting there (by simp [state]) guard w

end SequencerKept

/-! ### The new record is not at work while the resolver runs -/

/-- The trim of a record brings none to work. -/
theorem State.workAt_trim {s : State} {i j : Slot} {l : Record} (there : s.record i = some l) (guard : Nat) (iw : Slot)
    (w : Record) (unworked : s.workAt j = none) : (s.trim guard i iw w l).workAt j = none := by
  have shadowed : ∀ (u : State) (k : Slot) (o : BatchOutcome), u.workAt j = none → (u.becomeShadow k o).workAt j = none :=
    fun u k o idle => by rw [State.workAt_becomeShadow, idle, ite_self]
  have changed : ∀ q : Record, q.state = l.state → (s.setRecord i q).workAt j = none := fun q state => by
    rw [State.workAt_setRecord]
    split
    · next here => rw [Record.work_of_state state, ← State.workAt_of_record there, ← here, unworked]
    · exact unworked
  have waiting : (s.trimWaiting guard i w l).workAt j = none := by
    unfold State.trimWaiting
    extract_lets l' u
    have put : u.workAt j = none := changed l' (SequencerKept.state_trimmed _ _ w l)
    split
    · exact unworked
    · split
      · rw [State.workAt, State.record_dropRecord]
        exact shadowed u i _ put
      · exact put
  have onAir : (s.trimOnAir guard i iw w l).workAt j = none := by
    unfold State.trimOnAir
    dsimp only
    split
    · split
      · exact shadowed s iw _ unworked
      · exact unworked
    · split
      · exact unworked
      · split
        · exact changed _ rfl
        · exact shadowed s iw _ unworked
  unfold State.trim
  split
  · exact unworked
  · exact onAir
  all_goals exact waiting

/-- A move that keeps both laws while the record in a slot is not at work, and brings it none. -/
def KeptBeside (new : Slot) (s t : State) : Prop := s.workAt new = none → SequencerKept s t ∧ t.workAt new = none

namespace KeptBeside

theorem refl (new : Slot) (s : State) : KeptBeside new s s := fun unworked => ⟨.refl s, unworked⟩

theorem foldl {α : Type} {new : Slot} {f : State → α → State} (hf : ∀ s a, KeptBeside new s (f s a)) (xs : List α)
    (s : State) : KeptBeside new s (xs.foldl f s) := by
  induction xs generalizing s with
  | nil => exact refl new s
  | cons x xs ih =>
    intro unworked
    obtain ⟨kept, unworked⟩ := hf s x unworked
    obtain ⟨rest, unworked⟩ := ih (f s x) unworked
    exact ⟨kept.trans rest, unworked⟩

/-- In the first pass the new record is the loser, which is not on the air (R124). -/
theorem firstPass (guard : Nat) (new : Slot) (s : State) (e : Slot) : KeptBeside new s (State.firstPass guard new s e) := by
  unfold State.firstPass
  split
  · exact refl new s
  · split
    · next r w there _ =>
      split
      · intro unworked
        refine ⟨.trim there guard w fun air => ?_, State.workAt_trim there guard e w unworked⟩
        simp [State.workAt_of_record there, Record.work_of_onAir air] at unworked
      · exact refl new s
    · exact refl new s

/-- In the second pass the new record is the winner (R124). -/
theorem secondPass (guard : Nat) (new : Slot) (s : State) (e : Slot) :
    KeptBeside new s (State.secondPass guard new s e) := by
  unfold State.secondPass
  split
  · exact refl new s
  · split
    · next w l _ there =>
      split
      · exact fun unworked => ⟨.trim there guard w fun _ => unworked, State.workAt_trim there guard new w unworked⟩
      · exact refl new s
    · exact refl new s

theorem resolve (s : State) (new : Slot) : KeptBeside new s (s.resolve new) := by
  intro unworked
  obtain ⟨first, unworked⟩ := foldl (firstPass _ new) allSlots s unworked
  obtain ⟨second, unworked⟩ := foldl (secondPass _ new) allSlots _ unworked
  exact ⟨first.trans second, unworked⟩

end KeptBeside

end Sys2Proof.Machine
end

section
/-! SUPPORT. The links, the management engine, admission, the site time unit and a beat keep both laws of the sequencer, and so
does every command; O8 (R107, R137, R138). -/

namespace Sys2Proof.Machine

@[simp] theorem State.answer_table (s : State) (h : Handed) (q : Request) (res : Result) (data : List Byte) :
    (s.answer h q res data).table = s.table := by
  rcases s.answer_cases h q res data with ⟨-, placed⟩ | ⟨-, silent⟩
  · rw [placed, State.placeReply_table]
  · rw [silent]

namespace SequencerKept

/-! ### Links and replies -/

theorem setLink (s : State) (l : Link) (c : CarriageLink) : SequencerKept s (s.setLink l c) := aside (by simp) (by simp)
theorem endAttempt (s : State) (l : Link) (d : Disposition) : SequencerKept s (s.endAttempt l d) :=
  aside (by simp) (by simp)
theorem placeReply (s : State) (l : Link) (body : List Byte) : SequencerKept s (s.placeReply l body) :=
  aside (by simp) (by simp)
theorem answer (s : State) (h : Handed) (q : Request) (res : Result) (data : List Byte) :
    SequencerKept s (s.answer h q res data) := aside (by simp) (by simp)
theorem setNvFault (s : State) (f : Bool) : SequencerKept s (s.setNvFault f) := aside (by simp) (by simp)

theorem applyRate (s : State) (l : Link) (code : Nat) : SequencerKept s (s.applyRate l code) :=
  ite (setLink s l _) ((setLink s l _).trans (endAttempt _ _ _))

theorem silenceCheck (s : State) (l : Link) : SequencerKept s (s.silenceCheck l) :=
  ite ((setLink s l _).trans (latch _ _)) (refl s)

theorem rateFollows (h : Handed) (old new : Settings) (s : State) (l : Link) :
    SequencerKept s (State.rateFollows h old new s l) :=
  ite (refl s) (ite (setLink s l _) (applyRate s l _))

theorem installSettings (s : State) (h : Handed) (new : Settings) {reply : State → State}
    (replied : ∀ u, SequencerKept u (reply u)) : SequencerKept s (s.installSettings h new reply) :=
  (aside rfl rfl : SequencerKept s { s with store := { s.store with settings := new } }).trans
    ((silenceCheck _ .a).trans ((silenceCheck _ .b).trans ((replied _).trans
      ((rateFollows _ _ _ _ _).trans (rateFollows _ _ _ _ _)))))

theorem rateTurn (s : State) (l : Link) : SequencerKept s (s.rateTurn l) := by
  unfold State.rateTurn
  split
  · exact refl s
  · exact ite (applyRate s l _) (setLink s l _)

theorem replyGone (s : State) (l : Link) : SequencerKept s (s.replyGone l) := by
  rw [State.replyGone_eq, State.sawPlace_eq]
  exact (setLink s l _).trans ((bump _ _).trans ((rateTurn _ l).trans ((setLink _ l _).trans (aside rfl rfl))))

/-! ### The management engine -/

theorem writeRows (s : State) (h : Handed) (t : TableId) (first : Nat) (rows : List (List Byte)) :
    SequencerKept s (s.writeRows h t first rows) := by
  have refused : ∀ res, SequencerKept s (s.answer h .write res []) := fun res => answer s h _ res []
  have replaced : ∀ p f res, SequencerKept s ((s.setProfile p f).answer h .write res []) := fun p f res =>
    (answer _ h _ res []).via rfl rfl
  cases t with
  | settings =>
    simp only [State.writeRows]
    split
    · exact refused _
    · exact installSettings s h _ fun u => answer u h _ _ _
  | site p => exact replaced p _ _
  | modes p | zones p =>
    simp only [State.writeRows]
    split
    · exact refused _
    · exact replaced p _ _
  | history | counters | batches => exact refused _

theorem placeReadFrame (s : State) (op : ReadOp) : SequencerKept s (s.placeReadFrame op) :=
  (placeReply s op.handed.link _).trans (aside rfl rfl)

theorem doRead (s : State) (h : Handed) (params : List Byte) : SequencerKept s (s.doRead h params) := by
  unfold State.doRead
  dsimp only
  split
  · exact answer s h _ _ _
  · split
    · exact answer s h _ _ _
    · refine ite (answer s h _ _ _) ?_
      split
      · exact ite (placeReadFrame s _) (aside rfl rfl)
      all_goals exact refl s

/-- The dependent marks of a pending switch are no matter of the sequencer (R28). -/
theorem setPending (s : State) (p : Option PendingSwitch) : SequencerKept s (s.setPending p) :=
  (clearDependents _).via rfl rfl

theorem doSwitch (s : State) (h : Handed) (params : List Byte) : SequencerKept s (s.doSwitch h params) := by
  have answered : ∀ res, SequencerKept s (s.answer h .switch res []) := fun res => answer s h _ res []
  unfold State.doSwitch
  dsimp only
  split
  · exact ite (answered _) (ite (answered _) ((setPending s _).trans (answer _ h _ _ _)))
  · exact answered _

theorem doRecall (s : State) (h : Handed) : SequencerKept s (s.doRecall h) := by
  refine ite (answer s h _ _ _) ?_
  split
  · exact (setNvFault s true).trans (answer _ h _ _ _)
  · exact (installSettings _ h _ fun u => answer u h _ _ _).via rfl rfl

/-- An abort sets the stop of an ON_AIR record and drops any other that is not SHADOW (R118, R119). -/
theorem abortRecord (s : State) (i : Slot) : SequencerKept s (s.abortRecord i) := by
  unfold State.abortRecord
  split
  · exact refl s
  · next r there =>
    split
    · exact refl s
    · exact ite (setRecord_from (q := r) there rfl) (refl s)
    all_goals
      next state => exact dropRecord (by simp [State.workAt_of_record there, Record.work, state]) _

theorem doAbort (s : State) (h : Handed) (params : List Byte) : SequencerKept s (s.doAbort h params) := by
  have settled : ∀ u, SequencerKept s u →
      SequencerKept s ((State.retireNext s (State.settleKeying s u)).answer h .abort .done []) := fun u aborted =>
    aborted.trans ((settleKeying s u).trans ((retireNext s _).trans (answer _ h _ _ _)))
  refine ite ?_ (ite (settled _ (foldl abortRecord allSlots s)) (answer s h _ _ _))
  split
  · exact answer s h _ _ _
  · exact settled _ (abortRecord s _)

theorem doSetLinkRate (s : State) (h : Handed) (params : List Byte) : SequencerKept s (s.doSetLinkRate h params) := by
  unfold State.doSetLinkRate
  dsimp only
  split
  · exact answer s h _ _ _
  · exact ite (SequencerKept.trans (by exact (answer _ h _ _ _).via rfl rfl) (rateFollows _ _ _ _ _)) (answer s h _ _ _)

theorem carryOut (s : State) (q : Request) (h : Handed) (params : List Byte) : SequencerKept s (s.carryOut q h params) := by
  match q with
  | .status => exact answer s h _ _ _
  | .read => exact doRead s h params
  | .write =>
    simp only [State.carryOut, State.doWrite]
    split
    · exact answer s h _ _ _
    · exact writeRows s h _ _ _
  | .digest =>
    simp only [State.carryOut, State.doDigest]
    split <;> exact answer s h _ _ _
  | .switch => exact doSwitch s h params
  | .cancelSwitch =>
    exact ite (answer s h _ _ _) (ite ((setPending s _).trans (answer _ h _ _ _)) (answer s h _ _ _))
  | .store => exact aside rfl rfl
  | .recall => exact doRecall s h
  | .abort => exact doAbort s h params
  | .ackAlarms => exact (answer _ h _ _ _).via rfl rfl
  | .clearCounters => exact (answer _ h _ _ _).via rfl rfl
  | .setLinkRate => exact doSetLinkRate s h params
  | .restart => exact (answer s h .restart .done []).trans (aside rfl rfl)

theorem takeRequest (s : State) (code : Byte) (h : Handed) (params : List Byte) :
    SequencerKept s (s.takeRequest code h params) := by
  refine (bump s (.mgmt .requestsTaken)).trans ?_
  unfold State.takeRequest
  dsimp only
  split
  · unfold State.misunderstood
    split
    · exact placeReply _ _ _
    all_goals exact refl _
  · refine ite ?_ (ite (carryOut _ _ h params) (answer _ h _ _ _))
    unfold State.turnAway
    split
    · exact (bump _ _).trans (answer _ h _ _ _)
    all_goals exact bump _ _

theorem storeEnded (s : State) (op : StoreOp) (verified : Bool) : SequencerKept s (s.storeEnded op verified) :=
  ite ((setNvFault _ _).via rfl rfl) ((setNvFault _ _).via rfl rfl)

/-! ### Admission -/

theorem takeToShadow {s : State} {i : Slot} {r : Record} (there : s.record i = some r) (p : RawPart) (l : Link) :
    SequencerKept s (s.takeToShadow i r p l) :=
  (setRecord_from (r := r.accept p.index l) there rfl).trans ((bump _ _).trans (bump _ _))

theorem storePart {s : State} {i : Slot} {r : Record} (there : s.record i = some r) (p : RawPart) (l : Link) :
    SequencerKept s (s.storePart i r p l) := by
  unfold State.storePart
  split
  · exact (bump s _).trans (latch _ _)
  · next chain store _ =>
    have stored : SequencerKept s { s with symbols := store } := aside rfl rfl
    refine stored.trans (SequencerKept.trans (setRecord_from (q := r) there ?_) ((bump _ _).trans (completeRecord _ i)))
    split <;> rfl

theorem placeFirstPart (s : State) (i : Slot) (p : RawPart) (l : Link) : SequencerKept s (s.placeFirstPart i p l) := by
  unfold State.placeFirstPart
  split
  · exact refl s
  · next there => exact ite (takeToShadow there p l) (storePart there p l)

/-- A record is created in a FREE slot, and the sequencer works on it neither then nor while the resolver runs (R88, R89). -/
theorem createRecord {s : State} {i : Slot} (vacant : s.record i = none) {r : Record} (unkeyed : ¬ r.keyed) (p : RawPart)
    (l : Link) : SequencerKept s (s.createRecord i r p l) := by
  have created : SequencerKept s (s.setRecord i r) :=
    setRecord (((Record.work_eq_none_iff r).mpr unkeyed).trans (State.workAt_of_vacant vacant).symm)
  obtain ⟨resolved, -⟩ := KeptBeside.resolve (s.setRecord i r) i (by
    rwa [State.workAt_setRecord, if_pos rfl, Record.work_eq_none_iff])
  exact created.trans (resolved.trans (placeFirstPart _ i p l))

theorem newBatch (s : State) (p : RawPart) (l : Link) : SequencerKept s (s.newBatch p l) := by
  refine ite (bump s _) (ite (bump s _) (ite (bump s _) ?_))
  split
  · exact (bump s _).trans (latch _ _)
  · next i slot =>
    exact createRecord (by simpa using List.find?_some slot) (GuardedMove.not_keyed_initialState _ _ rfl) p l

theorem knownBatch {s : State} {i : Slot} {r : Record} (there : s.record i = some r) (p : RawPart) (l : Link) :
    SequencerKept s (s.knownBatch i r p l) := by
  refine ite (bump s _) (ite (bump s _) ?_)
  split
  · exact takeToShadow there p l
  · exact storePart there p l
  all_goals exact bump s _

theorem takePart (s : State) (l : Link) (body : List Byte) : SequencerKept s (s.takePart l body) := by
  refine ite (bump s _) (ite (bump s _) (ite (bump s _) (ite (bump s _) ?_)))
  split
  · split
    · next there => exact (knownBatch there _ l).trans ((settleKeying s _).trans (retireNext s _))
    · exact refl s
  · exact (newBatch s _ l).trans ((settleKeying s _).trans (follow _ _))

theorem takeFrame (s : State) (l : Link) (body : List Byte) : SequencerKept s (s.takeFrame l body) := by
  refine ite (takePart s l body) (ite (ite (bump s _) ?_) (bump s _))
  dsimp only
  split
  · exact bump s _
  · exact takeRequest s _ _ _

theorem arbiterChooses (s : State) : SequencerKept s s.arbiterChooses := by
  refine ite (refl s) ?_
  split
  · exact refl s
  · dsimp only
    split
    · exact refl s
    · exact (setLink s _ _).trans ((takeFrame _ _ _).via rfl rfl)

theorem receiveByte (s : State) (l : Link) (b : Byte) : SequencerKept s (s.receiveByte l b) := by
  have moved : ∀ d, SequencerKept s (s.deframe l d) := fun d => setLink s l _
  have ended : ∀ d, SequencerKept s (s.endAttempt l d) := fun d => endAttempt s l d
  unfold State.receiveByte
  split
  · exact ite (moved _) (refl s)
  · exact moved _
  · exact ite (ended _) (ite (ended _) (moved _))
  · exact ite (moved _) (moved _)
  · exact moved _
  · exact ite (ended _) (ite (ended _) ((ended .good).trans ((setLink _ l _).trans (arbiterChooses _))))

/-! ### The site time unit -/

theorem referenceLost (s : State) : SequencerKept s s.referenceLost := by
  unfold State.referenceLost
  split
  · exact refl s
  · exact aside (by simp) (by simp)
  · exact aside rfl rfl
  · exact aside (by simp) (by simp [State.holdoverFromLocked])
  · exact refl s

theorem todByte (s : State) (b : Byte) (e : Bool) : SequencerKept s (s.todByte b e) := by
  have counted : ∀ (u : State) fix, SequencerKept u (u.qualityRun fix) := fun u fix =>
    ite (aside rfl rfl) (ite (ite (aside (by simp) (by simp [State.holdoverFromLocked])) (aside rfl rfl)) (refl u))
  have judged : ∀ bytes faulty, SequencerKept s (s.todComplete bytes faulty) := fun bytes faulty =>
    ite ((counted _ _).via rfl rfl) (aside rfl rfl)
  unfold State.todByte
  split
  · exact ite (aside rfl rfl) (refl s)
  · exact ite (aside rfl rfl) (judged _ _)

/-- A record's turn in the pass of a step: what acts on it finds it ASSEMBLING or READY (R121). -/
theorem stepRecord (p q : Instant) (s : State) (i : Slot) : SequencerKept s (stepRecord p q s i) := by
  have waits : ∀ {u : State} {r : Record}, u.record i = some r → r.Waits → u.workAt i = none := fun there waiting =>
    (State.workAt_of_record there).trans (Record.work_of_waits waiting)
  have deadline : SequencerKept s (stepDeadline p q s i) := by
    unfold stepDeadline
    split
    · next there =>
      split
      · next acts => exact deadlineActs (waits there (Or.inl acts.1))
      · exact refl s
    · exact refl s
  have keptEnd : ∀ u, SequencerKept u (stepKeptEnd p q u i) := fun u => by
    unfold stepKeptEnd
    split
    · next there =>
      split
      · next acts => exact becomeShadow (waits there (Or.inl acts.1)) _
      · exact refl u
    · exact refl u
  have ready : ∀ u, SequencerKept u (stepReady p q u i) := fun u => by
    unfold stepReady
    split
    · next there =>
      split
      · next state =>
        refine ite (becomeShadow (waits there (Or.inr state)) _) ?_
        split
        · next due => exact decideKeyUp_of_due due.2
        · exact refl u
      · exact refl u
    · exact refl u
  rw [stepRecord_eq]
  exact (deadline.trans (keptEnd _)).trans (ready _)

theorem stepClock (s : State) (second : Word32) : SequencerKept s (s.stepClock second) := by
  have pass : ∀ u : State, SequencerKept u (u.stepPass s.time.clock ⟨second, 0⟩) := fun u =>
    ite (refl u) ((foldl (stepRecord _ _) _ u).trans (foldl retireShadow _ _))
  have locked : SequencerKept s { s with time := { s.time with clock := ⟨second, 0⟩ } }.enterLocked :=
    aside (by simp) (by simp)
  exact locked.trans ((ite (takeSwitch _) (refl _)).trans (pass _))

theorem ppsEdge (s : State) : SequencerKept s s.ppsEdge := by
  have taken : SequencerKept s s.edgeTaken := aside (by simp) (by simp)
  have started : ∀ t e, SequencerKept s.edgeTaken (s.edgeTaken.edgeStarts t e) := fun t e =>
    ite (aside (by simp) (by simp)) (refl _)
  have counted : SequencerKept s.edgeTaken (s.edgeTaken.runCounted s.time) := aside rfl rfl
  unfold State.ppsEdge
  dsimp only
  split
  · exact taken.trans (started _ _)
  · rw [State.edgeAcquiring_eq]
    refine taken.trans ?_
    split
    · exact counted
    · exact ite counted (ite (counted.trans (aside (by simp) (by simp)))
        (ite (counted.trans (stepClock _ _)) (counted.trans (aside rfl rfl))))
  · exact taken.trans (ite (aside rfl rfl) (ite (aside (by simp) (by simp)) (aside rfl rfl)))
  · exact taken.trans (started _ _)

/-- One beat moves the strobe and TXRDY alone (R138). -/
theorem beat (s : State) : SequencerKept s s.beat := by
  rw [State.beat_eq]
  exact of_pins (fun _ => rfl) rfl

/-! ### The commands -/

theorem exec {c : Instr} {s t : State} (h : Machine.exec c s = .next t) : SequencerKept s t := by
  match c with
  | .coldStart => cases h; exact restart rfl rfl
  | .refLost => cases h; exact ite ((referenceLost _).via rfl rfl) (refl s)
  | .refBack => cases h; exact ite (aside rfl rfl) (refl s)
  | .ppsEdge => cases h; exact ppsEdge s
  | .ppsMissing => cases h; exact ite ((referenceLost _).via rfl rfl) (refl s)
  | .todLeadByte e => cases h; exact todByte s _ e
  | .todMessage second quality check faults =>
    exact todMessage_keeps (P := SequencerKept s) (fun u b e hu => hu.trans (todByte u b e)) (refl s) h
  | .secondBoundary => cases h; exact ite (of_pins (fun _ => rfl) rfl) (refl s)
  | .txrdyFall => cases h; exact ite (ite (of_pins (fun _ => rfl) rfl) (of_pins (fun _ => rfl) rfl)) (refl s)
  | .switchEvent => cases h; exact ite (takeSwitch s) (refl s)
  | .leadByte l => cases h; exact receiveByte s l _
  | .frameByte l b | .lengthEnd l b | .frameEnd l b => cases h; exact receiveByte s l b
  | .badChar l =>
    cases h
    split
    · exact refl s
    · exact endAttempt s l _
  | .gap l => cases h; exact ite (endAttempt s l _) (refl s)
  | .silenceTimeout l => cases h; exact silenceCheck s l
  | .admissionFree => cases h; exact (arbiterChooses _).via rfl rfl
  | .deadline i =>
    cases h
    refine SequencerKept.trans ?_ (retireNext s _)
    split
    · next due =>
      obtain ⟨r, there, assembling, -⟩ := (s.deadlineDue_iff i).mp due
      exact (deadlineActs ((State.workAt_of_record there).trans (Record.work_of_waits (Or.inl assembling)))).trans
        (settleKeying s _)
    · exact refl s
  | .keptEndWhileLate i =>
    cases h
    refine SequencerKept.trans ?_ (retireNext s _)
    split
    · next due =>
      obtain ⟨r, there, assembling, -⟩ := (s.keptEndDue_iff i).mp due
      exact (becomeShadow ((State.workAt_of_record there).trans (Record.work_of_waits (Or.inl assembling))) _).trans
        (settleKeying s _)
    · exact refl s
  | .missedLaunch i =>
    cases h
    refine SequencerKept.trans ?_ (retireNext s _)
    split
    · next missed =>
      obtain ⟨r, there, ready, -⟩ := (s.launchMissed_iff i).mp missed
      exact (becomeShadow ((State.workAt_of_record there).trans (Record.work_of_waits (Or.inr ready))) _).trans
        (settleKeying s _)
    · exact refl s
  | .keyUp i => cases h; exact (decideWhenDue s i).trans (retireNext s _)
  | .retirement i => cases h; exact ite (retireShadow s i) (refl s)
  | .launch =>
    cases h
    split
    · next i due =>
      obtain ⟨-, -, r, there, keying, -⟩ := (State.launchDue_eq_some_iff s i).mp due
      exact startSymbols ((State.workAt_of_record there).trans (Record.work_of_keying keying))
    · exact refl s
  | .pacerCarry =>
    cases h
    refine SequencerKept.trans ?_ (retireNext s _)
    split
    · next due => exact carry ((State.carryDue_iff s).mp due).1
    · exact refl s
  | .blockRead =>
    cases h
    refine SequencerKept.trans ?_ (retireNext s _)
    split
    · exact refl s
    · next i r b wanted =>
      obtain ⟨-, there, -⟩ := (State.blockWanted_eq_some_iff s i r b).mp wanted
      split
      · exact readOnAir there b
      · next earth =>
        refine readBeforeLaunch ?_ r b
        rwa [State.workAt_of_record there, Ne, Record.work_eq_some_iff _ (Or.inr rfl)]
  | .tailEnd =>
    cases h
    refine SequencerKept.trans ?_ (retireNext s _)
    split
    · next done => exact (enterIdle ((State.tailDone_iff s).mp done).1).trans (decideIfDue _)
    · exact refl s
  | .status h' params | .read h' params | .write h' params | .digest h' params | .switch h' params
  | .cancelSwitch h' params | .store h' params | .recall h' params | .abort h' params | .ackAlarms h' params
  | .clearCounters h' params | .setLinkRate h' params | .restart h' params =>
    cases h
    exact takeRequest s _ h' params
  | .notUnderstood h' code params => cases h; exact takeRequest s code h' params
  | .storeComplete verified =>
    cases h
    split
    · exact (storeEnded s _ verified).trans (answer _ _ _ _ _)
    · exact refl s
  | .readFramePlaced =>
    cases h
    split
    · exact ite (placeReadFrame s _) (refl s)
    · exact refl s
  | .readStall => cases h; exact ite (aside rfl rfl) (refl s)
  | .replySent l => cases h; exact ite (replyGone s l) (refl s)
  | .warmRestart => cases h; exact ite (ite (aside rfl rfl) (restart rfl rfl)) (refl s)

/-- A step keeps both laws of the sequencer. -/
theorem step {s t : State} (h : Machine.step s = .next t) : SequencerKept s t := by
  rcases step_cases h with rfl | ⟨c, p, f, run, -⟩
  · exact beat s
  · exact (exec run).via rfl rfl

end SequencerKept

/-- Settles O8: every operation keeps both laws, each by itself, and a step is made of such operations. -/
theorem everyStepKeepsTheSequencerSound : Obligations.EveryStepKeepsTheSequencerSound := by
  unfold Obligations.EveryStepKeepsTheSequencerSound
  exact ⟨fun s t tied h => (SequencerKept.step h).tied tied, fun s t port h => (SequencerKept.step h).port port⟩

end Sys2Proof.Machine
end

section
/-! SUPPORT. What belongs to the event that entered TAIL: nothing, or the decision of the head READY record, and the end of
a tail of 0 (R130, R139, R147). -/

namespace Sys2Proof.Machine

variable {before s : State} {b : Slot}

/-! ### With no decision due -/

/-- A decision is due of the head READY record alone (R139). -/
theorem State.headReady_of_keyUpDue (due : s.keyUpDue b = true) : s.headReady = some b := by
  obtain ⟨_, -, -, -, -, head, -⟩ := (State.keyUpDue_iff s b).mp due
  exact head

theorem State.keyUpDue_of_not_reached (early : s.keyUpReached b = false) : s.keyUpDue b = false := by
  rw [State.keyUpDue, early, Bool.false_and, Bool.false_and]

theorem State.keyUpReached_congr {t : State} (record : t.record b = s.record b) (time : t.time = s.time) :
    t.keyUpReached b = s.keyUpReached b := by
  rw [State.keyUpReached, State.keyUpReached, record, time]

theorem State.decideIfDue_undue (undue : ∀ b, s.headReady = some b → s.keyUpDue b = false) : s.decideIfDue = s := by
  unfold State.decideIfDue
  split
  · rfl
  · next i head => rw [undue i head, if_neg (by simp)]

section
variable (was : before.keying.state ≠ .tail) (now : s.keying.state = .tail)
include was now

theorem State.afterTailEntry_undue (undue : ∀ b, s.headReady = some b → s.keyUpDue b = false) :
    State.afterTailEntry before s = s.zeroTail := by
  rw [State.afterTailEntry_entered was now, State.decideIfDue_undue undue, ite_self]

/-- A key-up that the event formed again is not decided in it (R130). -/
theorem State.afterTailEntry_formed (formed : State.keyUpStands before s = false) :
    State.afterTailEntry before s = s.zeroTail := by
  rw [State.afterTailEntry_entered was now, if_neg (by simp [formed])]

theorem State.afterTailEntry_due (stands : State.keyUpStands before s = true) (due : s.keyUpDue b = true) :
    State.afterTailEntry before s = (s.decideThenNext b).zeroTail := by
  rw [State.afterTailEntry_entered was now, if_pos stands, State.decideIfDue, State.headReady_of_keyUpDue due]
  exact congrArg State.zeroTail (if_pos due)

end

/-- The key-up of the head READY record stands where the event kept the instant in its record (R130). -/
theorem State.keyUpStands_iff {q q0 : Record} (head : s.headReady = some b) (held : s.record b = some q)
    (old : before.record b = some q0) : State.keyUpStands before s = true ↔ q.keptKeyUp = q0.keptKeyUp := by
  simp only [State.keyUpStands, head, Option.bind_some, held, old, Option.map_some, Option.some.injEq, decide_eq_true_eq]
  exact eq_comm

/-! ### The decision out of TAIL -/

theorem State.exec_keyUp_due (due : s.keyUpDue b = true) :
    exec (.keyUp b) s = .next (State.retireNext s (s.decideThenNext b)) := by
  simp only [exec, execKeyUp, due, if_true]

section
variable {q : Record} (held : s.record b = some q) (tail : s.keying.state = .tail)
include held tail

/-- The tail is not over after the decision where it was not before, or where the record passes the decision. -/
theorem State.zeroTail_decideThenNext_stays
    (left : s.tailDone = false ∨ (s.gateOpen q.row = true ∧ s.keying.txrdy = true)) :
    (s.decideThenNext b).zeroTail = s.decideThenNext b := by
  refine State.zeroTail_of_not_done ?_
  rw [State.decideThenNext_tailDone]
  rcases State.keying_decideKeyUp held (by simp [tail]) with ⟨refused, same⟩ | ⟨-, -, -, -, past⟩
  · rcases left with left | ⟨gate, ready⟩
    · rwa [State.tailDone, same, (GuardedMove.decideKeyUp s b).time]
    · simp [gate, ready] at refused
  · exact past

/-- A tail of 0 ends after the decision that refuses the record (R147). -/
theorem State.zeroTail_decideThenNext_ends (past : s.tailDone = true)
    (refused : s.gateOpen q.row = false ∨ s.keying.txrdy = false) :
    (s.decideThenNext b).zeroTail = { s.decideThenNext b with keying := idleFor s.keying.txrdy } := by
  have same : (s.decideKeyUp b).keying = s.keying := by
    rcases State.keying_decideKeyUp held (by simp [tail]) with ⟨-, same⟩ | ⟨gate, ready, -⟩
    · exact same
    · simp [gate, ready] at refused
  have done : (s.decideThenNext b).tailDone = true := by
    rw [State.decideThenNext_tailDone]
    rwa [State.tailDone, same, (GuardedMove.decideKeyUp s b).time]
  rw [State.zeroTail_of_done done, State.decideThenNext_keying, same]

end

/-! ### The tail of the row -/

/-- A tail of 0 ends at once, a longer one stands (R147). -/
theorem State.zeroTail_eq_of_inTail {k : Sequencer} {row : ModeRow} (entered : s.keying = k.inTail row s.time.clock)
    (short : row.tail ≤ 1000000) :
    s.zeroTail = if row.tail = 0 then { s with keying := idleFor s.keying.txrdy } else s := by
  have past := State.tailDone_inTail entered short
  split
  · next zero => exact State.zeroTail_of_done (past.mpr zero)
  · next long => exact State.zeroTail_of_not_done (by rw [Bool.eq_false_iff]; exact fun done => long (past.mp done))

end Sys2Proof.Machine
end

section
/-! SUPPORT. The deadline, the kept end and a missed launch, and O41 (R109, R110, R112 to R114, R130, R146, R147; log 3,
log 23, log 42). -/

namespace Sys2Proof.Machine

/-! ### A record that becomes SHADOW and the HOLD for it -/

/-- A record that becomes SHADOW ends no HOLD outside HOLD, after its bridge, or where it was not READY for the bridge and
the bridged record stays the head READY one (R146). -/
theorem State.settleKeying_becomeShadow {s : State} {i : Slot} (o : BatchOutcome)
    (kept : s.keying.state ≠ .hold ∨ s.keying.current ≠ none ∨
      ((∀ r, s.record i = some r → r.state = .ready → s.keying.bridged ≠ some i)
        ∧ (s.keying.bridged ≠ s.headReady ∨ (s.becomeShadow i o).headReady = s.headReady))) :
    State.settleKeying s (s.becomeShadow i o) = s.becomeShadow i o := by
  refine State.settleKeying_without s _ (s.becomeShadow_keying i o) ?_
  rcases kept with outside | current | ⟨unbridged, head⟩
  · exact State.holdEnds_outside_hold _ _ (by rwa [State.becomeShadow_keying])
  · exact State.holdEnds_without fun _ _ idle => absurd (by rwa [State.becomeShadow_keying] at idle) current
  · refine State.holdEnds_without fun b bridged _ => ?_
    rw [State.becomeShadow_keying] at bridged
    refine ⟨fun ready => ?_, fun was => ?_, fun p q new old => ?_⟩
    · obtain ⟨q, old, ready⟩ := (s.isReady_iff b).mp ready
      have other : b ≠ i := by
        rintro rfl
        exact unbridged q old ready bridged
      exact (State.isReady_iff _ b).mpr ⟨q, by rw [State.record_becomeShadow, if_neg other, old], ready⟩
    · have same := head.resolve_left fun differs => differs (bridged.trans was.symm)
      rw [same, was]
    · rw [State.record_becomeShadow] at new
      split at new
      · next e =>
        subst e
        rw [old] at new
        simp only [Option.map_some, Option.some.injEq] at new
        subst new
        split <;> rfl
      · cases new.symm.trans old
        rfl

/-- The bridged READY record made SHADOW: HOLD ends, and the decision that follows does not touch the record (R146). -/
theorem State.settleKeying_becomeShadow_bridged {s : State} {i : Slot} {r : Record} {e : Instant} (o : BatchOutcome)
    (there : s.record i = some r) (ready : r.state = .ready) (hold : s.keying.state = .hold)
    (idle : s.keying.current = none) (bridged : s.keying.bridged = some i) (ends : s.keying.endInstant = some e) :
    (State.settleKeying s (s.becomeShadow i o)).record i = (s.becomeShadow i o).record i
      ∧ (State.settleKeying s (s.becomeShadow i o)).keying.Released := by
  have now := State.record_becomeShadow_live there (by simp [ready]) o
  have left : (s.becomeShadow i o).isReady i = false := by rw [State.isReady, now]; rfl
  have hold_ends : State.holdEnds s (s.becomeShadow i o) = true := by
    refine State.holdEnds_of_unready (b := i) (e := e) ?_ ?_ ?_ ?_ ((s.isReady_iff i).mpr ⟨r, there, ready⟩) left <;>
      rwa [State.becomeShadow_keying]
  have tail : (s.becomeShadow i o).tailFromHold.keying.state = .tail := rfl
  have released : (s.becomeShadow i o).tailFromHold.keying.Released := ⟨rfl, by simp [tail]⟩
  rw [State.settleKeying, if_pos hold_ends, State.afterTailEntry_entered (by simp [hold]) rfl, State.zeroTail_record]
  constructor
  · split
    · exact (State.record_decideIfDue_of_not_ready (s := (s.becomeShadow i o).tailFromHold) now (by simp)).trans now.symm
    · rfl
  · refine State.zeroTail_released ?_
    split
    · exact State.decideIfDue_released released
    · exact released

/-- The head READY record is read off the waiting records (R108). -/
theorem State.headReady_congr {s t : State} (same : ∀ j, t.queueItem j = s.queueItem j ∧ t.isReady j = s.isReady j) :
    t.headReady = s.headReady := by
  rw [State.headReady, State.headReady, State.launchQueue_congr fun j => (same j).1, funext fun j => (same j).2]

/-! ### The commands -/

section
variable {s : State} {i : Slot}

theorem State.retireNext_self (s : State) : State.retireNext s s = s := State.retireNext_of_same s s fun _ => rfl

theorem exec_deadline_undue (undue : ¬ s.deadlineDue i = true) : exec (.deadline i) s = .next s := by
  simp only [exec, execDeadline, undue, Bool.false_eq_true, if_false, State.retireNext_self]

theorem exec_keptEnd_undue (undue : ¬ s.keptEndDue i = true) : exec (.keptEndWhileLate i) s = .next s := by
  simp only [exec, execKeptEndWhileLate, undue, Bool.false_eq_true, if_false, State.retireNext_self]

theorem exec_missedLaunch_undue (undue : ¬ s.launchMissed i = true) : exec (.missedLaunch i) s = .next s := by
  simp only [exec, execMissedLaunch, undue, Bool.false_eq_true, if_false, State.retireNext_self]

theorem exec_deadline_due (due : s.deadlineDue i = true) :
    exec (.deadline i) s = .next (State.retireNext s (State.settleKeying s (s.deadlineActs i))) := by
  simp only [exec, execDeadline, due, if_true]

theorem exec_keptEnd_due (due : s.keptEndDue i = true) : exec (.keptEndWhileLate i) s =
    .next (State.retireNext s (State.settleKeying s (s.becomeShadow i .droppedLate))) := by
  simp only [exec, execKeptEndWhileLate, due, if_true]

theorem exec_missedLaunch_due (due : s.launchMissed i = true) : exec (.missedLaunch i) s =
    .next (State.retireNext s (State.settleKeying s (s.becomeShadow i .droppedLate))) := by
  simp only [exec, execMissedLaunch, due, if_true]

variable {r : Record} (there : s.record i = some r)
include there

theorem State.deadlineDue_iff_of_record : s.deadlineDue i = true ↔
    r.state = .assembling ∧ r.late = false ∧ r.deadline.diff s.time.clock ≤ 0 := by
  simp [State.deadlineDue_iff, there]

theorem State.keptEndDue_iff_of_record : s.keptEndDue i = true ↔
    r.state = .assembling ∧ r.late = true ∧ (r.launch.add (ticksOf r.inc r.k)).diff s.time.clock ≤ 0 := by
  simp [State.keptEndDue_iff, there]

theorem State.launchMissed_iff_of_record : s.launchMissed i = true ↔
    r.state = .ready ∧ (r.launch.add (ticksOf r.inc r.j)).diff s.time.clock < 0 := by
  simp [State.launchMissed_iff, there]

/-- Under DROP the deadline drops its record (R109). -/
theorem State.deadlineActs_drop (policy : r.row.late = .drop) :
    s.deadlineActs i = s.becomeShadow i .droppedIncomplete := by
  simp only [State.deadlineActs, there, policy, LatePolicy.drops, if_true]

/-- Under JOIN the deadline sets the late mark (R109). -/
theorem State.deadlineActs_join (policy : r.row.late = .join) :
    s.deadlineActs i = s.setRecord i { r with late := true } := by
  simp only [State.deadlineActs, there, policy, LatePolicy.drops, Bool.false_eq_true, if_false]

/-- The late mark of a record changes neither the launch queue's head nor any HOLD, and retires nothing. -/
theorem State.settled_setLate :
    State.retireNext s (State.settleKeying s (s.setRecord i { r with late := true })) =
      s.setRecord i { r with late := true } := by
  have marked := State.record_setRecord_same s i { r with late := true }
  have others : ∀ j, j ≠ i → (s.setRecord i { r with late := true }).record j = s.record j := fun j other => by
    rw [State.record_setRecord, if_neg other]
  have same : ∀ j, (s.setRecord i { r with late := true }).queueItem j = s.queueItem j
      ∧ (s.setRecord i { r with late := true }).isReady j = s.isReady j
      ∧ (s.setRecord i { r with late := true }).isShadow j = s.isShadow j := fun j => by
    by_cases e : j = i
    · simp only [e, State.queueItem, State.isReady, State.isShadow, marked, there, and_self]
    · simp only [State.queueItem, State.isReady, State.isShadow, others j e, and_self]
  have head := State.headReady_congr fun j => ⟨(same j).1, (same j).2.1⟩
  have stays : State.holdEnds s (s.setRecord i { r with late := true }) = false := by
    refine State.holdEnds_without fun b _ _ => ⟨fun was => by rwa [(same b).2.1], fun was => by rwa [head],
      fun p q new old => ?_⟩
    by_cases e : b = i
    · subst e
      cases marked.symm.trans new
      cases there.symm.trans old
      rfl
    · cases (others b e).symm.trans new |>.symm.trans old
      rfl
  rw [State.settleKeying_without s _ (by rw [State.setRecord_keying]) stays,
    State.retireNext_of_isShadow fun j shadow => by rwa [← (same j).2.2]]

end

/-! ### The early end of HOLD -/

/-- When HOLD ends before its decision (R130, R146). -/
theorem State.holdEnds_iff {before s : State} {i : Slot} {r r0 : Record} {e : Instant} (hold : s.keying.state = .hold)
    (idle : s.keying.current = none) (bridged : s.keying.bridged = some i) (ends : s.keying.endInstant = some e)
    (there : s.record i = some r) (old : before.record i = some r0) :
    State.holdEnds before s = true ↔ (r0.state = .ready ∧ r.state ≠ .ready)
      ∨ (before.headReady = some i ∧ s.headReady ≠ some i)
      ∨ (r.j ≠ r0.j ∧ (s.store.settings.bridgeLimit : Int) < (r.launch.add (ticksOf r.inc r.j)).diff e) := by
  have launch : r.launch.add (ticksOf r.inc r.j) = r.keptLaunch := rfl
  rw [launch]
  simp [State.holdEnds, hold, idle, bridged, ends, there, old, State.isReady, or_assoc]

/-- The state in TAIL with a rest row that stays put out, its tail just begun (R147). -/
def State.inTail (s : State) (row : ModeRow) : State := { s with keying := s.keying.inTail row s.time.clock }

section
variable {before s : State} {row : ModeRow} (was : before.keying.state = .hold) (rest : s.keying.restRow = some row)
  (long : 1 ≤ row.tail) (short : row.tail ≤ 1000000) (hold_ends : State.holdEnds before s = true)
include rest hold_ends

/-- HOLD that ends enters TAIL with the row of the finished batch (R146). -/
theorem State.settleKeying_holdEnds : State.settleKeying before s =
    State.afterTailEntry before (s.inTail row) := by
  rw [State.settleKeying, if_pos hold_ends, State.tailFromHold_eq rest]
  rfl

include was long short

theorem State.settleKeying_holdEnds_quiet (quiet : ∀ j, s.keyUpReached j = false) :
    State.settleKeying before s = s.inTail row := by
  rw [State.settleKeying_holdEnds rest hold_ends, State.afterTailEntry_undue (by simp [was]) rfl,
    State.zeroTail_eq_of_inTail rfl short, if_neg (by omega)]
  exact fun b _ => State.keyUpDue_of_not_reached (quiet b)

section
variable {b : Slot} {q q0 : Record} (head : s.headReady = some b) (held : s.record b = some q)
  (old : before.record b = some q0)
include head held old

/-- A key-up that the event formed again is left to the event that follows (R130). -/
theorem State.settleKeying_holdEnds_formed (formed : q.keptKeyUp ≠ q0.keptKeyUp) :
    State.settleKeying before s = s.inTail row := by
  have head_tailed : (s.inTail row).headReady = some b := head
  rw [State.settleKeying_holdEnds rest hold_ends, State.afterTailEntry_formed (by simp [was]) rfl,
    State.zeroTail_eq_of_inTail rfl short, if_neg (by omega)]
  rw [Bool.eq_false_iff, Ne, State.keyUpStands_iff head_tailed held old]
  exact formed

/-- The head READY record whose key-up has come due is decided from TAIL in the event (R139, R147). -/
theorem State.settleKeying_holdEnds_due (stands : q.keptKeyUp = q0.keptKeyUp) (due : q.keptKeyUp.diff s.time.clock ≤ 0)
    (ahead : 0 ≤ (q.launch.add (ticksOf q.inc q.j)).diff s.time.clock) :
    exec (.keyUp b) (s.inTail row) =
      .next (State.retireNext (s.inTail row) (State.settleKeying before s)) := by
  have keyUp_due : (s.inTail row).keyUpDue b = true :=
    (State.keyUpDue_iff_of_record (s := s.inTail row) held).mpr
      ⟨State.ready_of_headReady head held, due, ahead, head, Or.inr (Or.inl rfl)⟩
  have kept : State.keyUpStands before (s.inTail row) = true :=
    (State.keyUpStands_iff head held old).mpr stands
  have left : (s.inTail row).tailDone = false := by
    rw [Bool.eq_false_iff, Ne, State.tailDone_inTail rfl short]
    omega
  rw [State.exec_keyUp_due keyUp_due, State.settleKeying_holdEnds rest hold_ends,
    State.afterTailEntry_due (by simp [was]) rfl kept keyUp_due,
    State.zeroTail_decideThenNext_stays (s := s.inTail row) held rfl (Or.inl left)]

end
end

/-- Settles O41: each command by whether its instant is due, and the event that ends a HOLD by what it owes. -/
theorem deadlineAndKeptEndAct : Obligations.DeadlineAndKeptEndAct := by
  unfold Obligations.DeadlineAndKeptEndAct
  refine ⟨fun s i => ?_, fun s i r there => ?_,
    fun before s i r r0 e row was hold idle bridged ends rest long short there old => ?_⟩
  · intro same
    refine ⟨fun vacant => ⟨exec_deadline_undue ?_, exec_keptEnd_undue ?_⟩, fun r there => ?_⟩
    · simp [State.deadlineDue_iff, vacant]
    · simp [State.keptEndDue_iff, vacant]
    · intro incomplete late
      have kept : ∀ o, r.state = .assembling → same (s.becomeShadow i o) →
          State.settleKeying s (s.becomeShadow i o) = s.becomeShadow i o := fun o assembling unmoved => by
        refine State.settleKeying_becomeShadow o
          (unmoved.imp_right (Or.imp_right fun head => ⟨fun q held ready => ?_, head⟩))
        cases there.symm.trans held
        simp [assembling] at ready
      refine ⟨fun assembling unmarked due => ⟨fun policy => ?_, fun policy => ?_⟩, fun assembling marked due => ?_,
        fun undue => exec_deadline_undue ?_, fun undue => exec_keptEnd_undue ?_⟩
      · have acts := exec_deadline_due ((State.deadlineDue_iff_of_record there).mpr ⟨assembling, unmarked, due⟩)
        rw [State.deadlineActs_drop there policy] at acts
        exact ⟨acts, fun unmoved => by rw [acts, kept _ assembling unmoved]⟩
      · rw [exec_deadline_due ((State.deadlineDue_iff_of_record there).mpr ⟨assembling, unmarked, due⟩),
          State.deadlineActs_join there policy, State.settled_setLate there]
      · have acts := exec_keptEnd_due ((State.keptEndDue_iff_of_record there).mpr ⟨assembling, marked, due⟩)
        exact ⟨acts, fun unmoved => by rw [acts, kept _ assembling unmoved]⟩
      · rw [State.deadlineDue_iff_of_record there]
        rintro ⟨assembling, unmarked, due⟩
        rcases undue with other | marked | early
        · exact other assembling
        · simp [unmarked] at marked
        · omega
      · rw [State.keptEndDue_iff_of_record there]
        rintro ⟨assembling, marked, due⟩
        rcases undue with other | unmarked | early
        · exact other assembling
        · simp [marked] at unmarked
        · omega
  · intro passed dropped
    have due := State.launchMissed_iff_of_record there
    refine ⟨fun gone => exec_missedLaunch_due (due.mpr gone), fun gone elsewhere => ?_,
      fun gone hold idle bridged ended => ?_, fun ahead => exec_missedLaunch_undue (mt due.mp ahead)⟩
    · rw [exec_missedLaunch_due (due.mpr gone), State.settleKeying_becomeShadow .droppedLate]
      exact elsewhere.imp_right (Or.imp_right fun head => ⟨fun _ _ _ => head.1, head.2⟩)
    · obtain ⟨e, instant⟩ := Option.ne_none_iff_exists'.mp ended
      obtain ⟨record, released⟩ :=
        State.settleKeying_becomeShadow_bridged .droppedLate there gone.1 hold idle bridged instant
      exact ⟨_, exec_missedLaunch_due (due.mpr gone), record, released⟩
  · intro ended tailed
    have hold_ends : State.holdEnds before s = true ↔ ended := State.holdEnds_iff hold idle bridged ends there old
    have in_tail : tailed = s.inTail row := by
      rw [State.inTail, Sequencer.inTail_own rest]
    rw [in_tail]
    refine ⟨fun stays => ?_, fun ends_now quiet => ?_,
      fun b q q0 ends_now head held was_held => ⟨fun formed => ?_, fun stands due ahead => ?_⟩⟩
    · rw [State.settleKeying, if_neg (mt hold_ends.mp stays)]
      exact State.afterTailEntry_without _ _ (Or.inr (by simp [hold]))
    · exact State.settleKeying_holdEnds_quiet was rest long short (hold_ends.mpr ends_now) quiet
    · exact State.settleKeying_holdEnds_formed was rest long short (hold_ends.mpr ends_now) head held was_held formed
    · exact State.settleKeying_holdEnds_due was rest long short (hold_ends.mpr ends_now) head held was_held stands due ahead

end Sys2Proof.Machine
end

section
/-! SUPPORT. The event in which a record leaves the air for TAIL: what it keeps, and its decision of the head READY record
(R114, R116, R119, R139, R147). -/

namespace Sys2Proof.Machine

/-! ### The counters stand through a decision -/

/-- A choice between two moves that leave the counters leaves them. -/
theorem counters_ite {s t u : State} {p : Prop} [Decidable p] (ht : t.counters = s.counters)
    (hu : u.counters = s.counters) : (if p then t else u).counters = s.counters := by
  split
  · exact ht
  · exact hu

@[simp] theorem State.zeroTail_counters (s : State) : s.zeroTail.counters = s.counters := counters_ite rfl rfl

@[simp] theorem State.dropRecord_counters (s : State) (i : Slot) (o : BatchOutcome) :
    (s.dropRecord i o).counters = s.counters := by
  unfold State.dropRecord
  split
  · rfl
  · dsimp only
    split <;> simp

@[simp] theorem State.becomeKeying_counters (s : State) (i : Slot) (r : Record) :
    (s.becomeKeying i r).counters = s.counters := by
  unfold State.becomeKeying
  dsimp only
  split <;> rfl

@[simp] theorem State.refuseKeyUp_counters (s : State) (i : Slot) (o : BatchOutcome) :
    (s.refuseKeyUp i o).counters = s.counters := by
  unfold State.refuseKeyUp
  dsimp only
  split <;> simp

@[simp] theorem State.decideKeyUp_counters (s : State) (i : Slot) : (s.decideKeyUp i).counters = s.counters := by
  unfold State.decideKeyUp
  split
  · rfl
  · refine counters_ite (by simp) (counters_ite (by simp) ?_)
    dsimp only
    split
    · simp
    · exact counters_ite (by simp) (by simp)

@[simp] theorem State.decideThenNext_counters (s : State) (i : Slot) : (s.decideThenNext i).counters = s.counters :=
  counters_ite (by simp [State.considerNext]) (by simp)

@[simp] theorem State.decideIfDue_counters (s : State) : s.decideIfDue.counters = s.counters := by
  unfold State.decideIfDue
  split
  · rfl
  · exact counters_ite (by simp) rfl

@[simp] theorem State.afterTailEntry_counters (before s : State) :
    (State.afterTailEntry before s).counters = s.counters :=
  counters_ite (by rw [State.zeroTail_counters]; exact counters_ite (by simp) rfl) rfl

@[simp] theorem State.retireNext_counters (before s : State) : (State.retireNext before s).counters = s.counters := rfl

@[simp] theorem State.record_retireNext (before s : State) (i : Slot) :
    (State.retireNext before s).record i = s.record i := rfl

/-! ### A slot with no READY record -/

/-- The decision due in the event that entered TAIL leaves a slot that holds no READY record. -/
theorem State.record_afterTailEntry {before s : State} {i : Slot} (unready : s.isReady i = false) :
    (State.afterTailEntry before s).record i = s.record i := by
  have decided : s.decideIfDue.record i = s.record i := by
    unfold State.decideIfDue
    split
    · rfl
    · next b head =>
      split
      · refine State.decideThenNext_record_other s ?_
        rintro rfl
        simp [List.find?_some head] at unready
      · rfl
  unfold State.afterTailEntry
  split
  · rw [State.zeroTail_record]
    split
    · exact decided
    · rfl
  · rfl

/-- A retirement that is not due of the one record an event touched follows from none of its stages (R114). -/
theorem State.retireNext_of_undue {s t u : State} {i : Slot} (others : ∀ j, j ≠ i → t.record j = s.record j)
    (undue : u.retirementDue i = false) : State.retireNext s u = State.retireNext t u := by
  refine State.retireNext_congr fun j due => ?_
  have other : j ≠ i := by
    rintro rfl
    simp [undue] at due
  simp only [State.isShadow, others j other]

/-- A decision that the gate or TXRDY refuses makes the record SHADOW (R140). -/
theorem State.shadow_decideThenNext_refused {s : State} {b : Slot} {q : Record} (held : s.record b = some q)
    (refused : s.gateOpen q.row = false ∨ s.keying.txrdy = false) :
    ∃ p, (s.decideThenNext b).record b = some p ∧ p.state = .shadow := by
  obtain ⟨cs, follows⟩ := s.decideThenNext_follows b
  rw [follows, State.record_of_table _ (s.decideKeyUp b) b (State.follow_table _ cs)]
  cases gate : s.gateOpen q.row with
  | false =>
    rw [State.decideKeyUp_muted held gate, State.record_refuseKeyUp]
    exact State.record_becomeShadow_self (s := s.latch .muted) held .muted
  | true =>
    rw [State.decideKeyUp_notReady held gate (refused.resolve_left (by simp [gate])), State.record_refuseKeyUp]
    exact State.record_becomeShadow_self (s := s.latch .tx) held .notReady

/-! ### A record leaves the air for TAIL -/

/-- One event took a state to another in TAIL with a rest row: the record in a slot does not wait in the one or in the other,
and every other record, the clock, the settings and TXRDY stand. -/
structure LeftAir (s t : State) (i : Slot) (row : ModeRow) : Prop where
  was : s.keying.state ≠ .tail
  entered : ∃ k : Sequencer, t.keying = k.inTail row t.time.clock
  time : t.time = s.time
  store : t.store = s.store
  txrdy : t.keying.txrdy = s.keying.txrdy
  others : ∀ j, j ≠ i → t.record j = s.record j
  unready : t.isReady i = false

namespace LeftAir

variable {s t : State} {i : Slot} {row : ModeRow} (h : LeftAir s t i row)
include h

theorem now : t.keying.state = .tail := by
  obtain ⟨k, entered⟩ := h.entered
  rw [entered]
  rfl

theorem tailDone_iff (short : row.tail ≤ 1000000) : t.tailDone = true ↔ row.tail = 0 := by
  obtain ⟨k, entered⟩ := h.entered
  exact State.tailDone_inTail entered short

/-- With no key-up due, a tail of 0 ends and a longer one stands (R147). -/
theorem after_undue (undue : ∀ b, t.headReady = some b → t.keyUpDue b = false) (short : row.tail ≤ 1000000) :
    State.afterTailEntry s t = if row.tail = 0 then { t with keying := idleFor s.keying.txrdy } else t := by
  obtain ⟨k, entered⟩ := h.entered
  rw [State.afterTailEntry_undue h.was h.now undue, State.zeroTail_eq_of_inTail entered short, h.txrdy]

theorem refused_after {q : Record} (refused : s.gateOpen q.row = false ∨ s.keying.txrdy = false) :
    t.gateOpen q.row = false ∨ t.keying.txrdy = false := by
  rwa [State.gateOpen_of_time h.time, h.txrdy]

section
variable {b : Slot} (head : t.headReady = some b)
include head

theorem head_ne : b ≠ i := by
  rintro rfl
  have ready : t.isReady b = true := List.find?_some head
  simp [h.unready] at ready

variable {q : Record} (held : s.record b = some q)
include held

theorem held_after : t.record b = some q := (h.others b (h.head_ne head)).trans held

/-- The head READY record is not decided before its key-up (R139). -/
theorem undue (early : 0 < q.keptKeyUp.diff s.time.clock) : ∀ c, t.headReady = some c → t.keyUpDue c = false := by
  intro c head_c
  cases head.symm.trans head_c
  rw [Bool.eq_false_iff, Ne, State.keyUpDue_iff_of_record (h.held_after head held), h.time]
  rintro ⟨-, reached, -⟩
  omega

variable (due : q.keptKeyUp.diff s.time.clock ≤ 0) (ahead : 0 ≤ (q.launch.add (ticksOf q.inc q.j)).diff s.time.clock)
include due ahead

theorem keyUpDue : t.keyUpDue b = true := by
  have held_t := h.held_after head held
  rw [State.keyUpDue_iff_of_record held_t, h.time]
  exact ⟨State.ready_of_headReady head held_t, due, ahead, head, Or.inr (Or.inl h.now)⟩

/-- The head READY record whose key-up has come due is decided in the event, and a tail of 0 ends after it (R139, R147). -/
theorem after_due : State.afterTailEntry s t = (t.decideThenNext b).zeroTail :=
  State.afterTailEntry_due h.was h.now ((State.keyUpStands_iff head (h.held_after head held) held).mpr rfl)
    (h.keyUpDue head held due ahead)

variable (gone : t.retirementDue i = false)
include gone

/-- The retirements that follow the event are those that follow the decision (R114). -/
theorem exec_keyUp : exec (.keyUp b) t = .next (State.retireNext s (t.decideThenNext b)) := by
  have undue : (t.decideThenNext b).retirementDue i = false := by
    rwa [State.retirementDue, State.decideThenNext_record_other t (h.head_ne head).symm, State.decideThenNext_store,
      State.decideThenNext_time]
  rw [State.exec_keyUp_due (h.keyUpDue head held due ahead), State.retireNext_of_undue h.others undue]

/-- Where the tail is not over, or the record passes the decision, the event is the entry followed by that decision alone. -/
theorem settled_eq_keyUp (stays : ¬ t.tailDone = true ∨ (s.gateOpen q.row = true ∧ s.keying.txrdy = true)) :
    exec (.keyUp b) t = .next (State.retireNext s (State.afterTailEntry s t)) := by
  have left : t.tailDone = false ∨ (t.gateOpen q.row = true ∧ t.keying.txrdy = true) := by
    rwa [State.gateOpen_of_time h.time, h.txrdy, ← Bool.not_eq_true]
  rw [h.exec_keyUp head held due ahead gone, h.after_due head held due ahead,
    State.zeroTail_decideThenNext_stays (h.held_after head held) h.now left]

variable (refused : s.gateOpen q.row = false ∨ s.keying.txrdy = false)
include refused

/-- A tail of 0 ends after a decision that refuses the record (R147). -/
theorem settled_eq_idle (past : t.tailDone = true) {u : State} (decided : exec (.keyUp b) t = .next u) :
    State.retireNext s (State.afterTailEntry s t) = { u with keying := idleFor s.keying.txrdy } := by
  rw [h.exec_keyUp head held due ahead gone] at decided
  cases decided
  rw [h.after_due head held due ahead,
    State.zeroTail_decideThenNext_ends (h.held_after head held) h.now past (h.refused_after refused), h.txrdy]
  rfl

omit gone in
/-- The record that the decision refuses is SHADOW after the event (R140). -/
theorem shadow_refused : ∃ p, (State.afterTailEntry s t).record b = some p ∧ p.state = .shadow := by
  rw [h.after_due head held due ahead, State.zeroTail_record]
  exact State.shadow_decideThenNext_refused (h.held_after head held) (h.refused_after refused)

end

end LeftAir

end Sys2Proof.Machine
end

section
/-! SUPPORT. The carry after the last kept symbol and the carry that ends a stop symbol, and O47 (R104, R114, R116, R117, R119,
R139, R144, R147, R149, R168, R169; log 42). -/

namespace Sys2Proof.Machine

/-! ### What the carry comes to -/

theorem exec_pacerCarry_due {s : State} (sending : s.keying.state = .symbols) (full : 4294967296 ≤ s.pacer.acc) :
    exec .pacerCarry s = .next (State.retireNext s s.carry) := by
  simp only [exec, execPacerCarry, (State.carryDue_iff s).mpr ⟨sending, full⟩, if_true]

theorem State.carry_last {s : State} {i : Slot} {r : Record} (current : s.keying.current = some i)
    (there : s.record i = some r) (running : r.stop = none) (last : r.k ≤ s.pacer.symbol + 1) :
    s.carry = s.takeCarry.endOfSymbols i r := by
  simp only [State.carry, current, there, running, last, if_true]

theorem State.carry_stopped {s : State} {i : Slot} {r : Record} {st : Stop} (current : s.keying.current = some i)
    (there : s.record i = some r) (stopped : r.stop = some st) (reached : st.symbol ≤ s.pacer.symbol) :
    s.carry = s.takeCarry.stopRecord i r st.outcome := by
  simp only [State.carry, current, there, stopped, reached, if_true]

/-! ### The end of symbols -/

/-- The record retired and TAIL entered with its row (R116, R144, R147). -/
def State.endedInTail (s : State) (i : Slot) (r : Record) : State := (s.retire i r r.airOutcome).enterTail r.row true

/-- The record retired and HOLD entered for another (R116, R144, R145). -/
def State.endedInHold (s : State) (i : Slot) (r : Record) (b : Slot) : State :=
  { s.retire i r r.airOutcome with keying := { s.keying with
      state := .hold, current := none, bridged := some b, restRow := some r.row, endInstant := some s.time.clock,
      tailEnd := none, mod := r.row.rest, modstb := true } }

/-- A READY record is bridged to when its launch is ahead and within the bridge limit (R144). -/
theorem State.bridges_iff {s : State} {b : Slot} {q : Record} (held : s.record b = some q) (e : Instant) :
    s.bridges b e = true ↔ (q.launch.add (ticksOf q.inc q.j)).diff e ≤ s.store.settings.bridgeLimit
      ∧ 0 ≤ (q.launch.add (ticksOf q.inc q.j)).diff s.time.clock := by
  have launch : q.launch.add (ticksOf q.inc q.j) = q.keptLaunch := rfl
  rw [launch]
  simp [State.bridges, held, Instant.not_passed_iff]

section
variable (s : State) (i : Slot) (r : Record)

theorem State.endOfSymbols_tail
    (far : ∀ b, (s.retire i r r.airOutcome).headReady = some b →
      (s.retire i r r.airOutcome).bridges b s.time.clock = false) :
    s.endOfSymbols i r = State.afterTailEntry s (s.endedInTail i r) := by
  cases head : (s.retire i r r.airOutcome).headReady with
  | none => simp only [State.endOfSymbols, head, State.endedInTail]
  | some b => simp only [State.endOfSymbols, head, far b head, Bool.false_eq_true, if_false, State.endedInTail]

theorem State.endOfSymbols_hold {b : Slot} (head : (s.retire i r r.airOutcome).headReady = some b)
    (near : (s.retire i r r.airOutcome).bridges b s.time.clock = true) :
    s.endOfSymbols i r = if (s.endedInHold i r b).keyUpDue b = true then (s.endedInHold i r b).decideThenNext b
      else s.endedInHold i r b := by
  simp only [State.endOfSymbols, head, near, if_true]
  rfl

theorem State.record_endedInTail (j : Slot) :
    (s.endedInTail i r).record j = if j = i then none else s.record j := State.record_retire s i j r r.airOutcome

theorem State.record_endedInHold (b j : Slot) :
    (s.endedInHold i r b).record j = if j = i then none else s.record j := State.record_retire s i j r r.airOutcome

/-- The slot of the retired record holds none, so no retirement follows but of what the decision of another record makes
SHADOW (R114). -/
theorem State.retireNext_after_retire {t u : State} (records : ∀ j, t.record j = if j = i then none else s.record j)
    (vacant : u.record i = none) : State.retireNext s u = State.retireNext t u :=
  State.retireNext_of_undue (fun j other => (records j).trans (if_neg other)) (by rw [State.retirementDue, vacant])

theorem State.retirementDue_endedInTail : (s.endedInTail i r).retirementDue i = false := by
  rw [State.retirementDue, State.record_endedInTail, if_pos rfl]

theorem State.retireNext_of_retired {u : State} (records : ∀ j, u.record j = if j = i then none else s.record j) :
    State.retireNext s u = u := by
  rw [State.retireNext_after_retire s i records ((records i).trans (if_pos rfl)), State.retireNext_self]

variable {r} in
theorem LeftAir.of_retire (was : s.keying.state ≠ .tail) : LeftAir s (s.endedInTail i r) i r.row where
  was := was
  entered := ⟨{ s.keying with mod := r.row.rest, modstb := true }, rfl⟩
  time := rfl
  store := rfl
  txrdy := rfl
  others j other := by rw [State.record_endedInTail, if_neg other]
  unready := by rw [State.isReady, State.record_endedInTail, if_pos rfl]

theorem State.ne_of_headReady_retire {o : BatchOutcome} {b : Slot} (head : (s.retire i r o).headReady = some b) :
    b ≠ i := by
  rintro rfl
  have ready : (s.retire b r o).isReady b = true := List.find?_some head
  simp [State.isReady, State.record_retire] at ready

/-- Whatever follows in the event, the slot is free, and the history and the counters are those of the retirement. -/
theorem State.endOfSymbols_frame :
    (s.endOfSymbols i r).record i = none ∧ (s.endOfSymbols i r).history = (s.retire i r r.airOutcome).history
      ∧ (s.endOfSymbols i r).counters = (s.retire i r r.airOutcome).counters := by
  have tail : (State.afterTailEntry s (s.endedInTail i r)).record i = none
      ∧ (State.afterTailEntry s (s.endedInTail i r)).history = (s.retire i r r.airOutcome).history
      ∧ (State.afterTailEntry s (s.endedInTail i r)).counters = (s.retire i r r.airOutcome).counters := by
    have vacant : (s.endedInTail i r).record i = none := by rw [State.record_endedInTail, if_pos rfl]
    refine ⟨?_, State.afterTailEntry_history _ _, State.afterTailEntry_counters _ _⟩
    rw [State.record_afterTailEntry (by rw [State.isReady, vacant]), vacant]
  by_cases near : ∃ b, (s.retire i r r.airOutcome).headReady = some b
      ∧ (s.retire i r r.airOutcome).bridges b s.time.clock = true
  · obtain ⟨b, head, near⟩ := near
    have vacant : (s.endedInHold i r b).record i = none := by rw [State.record_endedInHold, if_pos rfl]
    rw [State.endOfSymbols_hold s i r head near]
    split
    · refine ⟨?_, State.decideThenNext_history _ b, State.decideThenNext_counters _ b⟩
      rw [State.decideThenNext_record_other _ (State.ne_of_headReady_retire s i r head).symm, vacant]
    · exact ⟨vacant, rfl, rfl⟩
  · rwa [State.endOfSymbols_tail s i r fun b head => Bool.eq_false_iff.mpr fun is_near => near ⟨b, head, is_near⟩]

theorem State.lastCarry_frame :
    (State.retireNext s (s.endOfSymbols i r)).record i = none
      ∧ (State.retireNext s (s.endOfSymbols i r)).history = (s.retire i r r.airOutcome).history
      ∧ (State.retireNext s (s.endOfSymbols i r)).counters = (s.retire i r r.airOutcome).counters := by
  rw [State.record_retireNext, State.retireNext_history, State.retireNext_counters]
  exact s.endOfSymbols_frame i r

end

section
variable {s : State} {i : Slot} {r : Record} {b : Slot} {q : Record}
  (head : (s.retire i r r.airOutcome).headReady = some b) (held : s.record b = some q)
include head held

theorem State.held_endedInHold : (s.endedInHold i r b).record b = some q := by
  rw [State.record_endedInHold, if_neg (State.ne_of_headReady_retire s i r head), held]

/-- A head READY record whose launch is beyond the bridge limit is not bridged to, and no other is (R144). -/
theorem State.not_bridges_of_far
    (far : (s.store.settings.bridgeLimit : Int) < (q.launch.add (ticksOf q.inc q.j)).diff s.time.clock) :
    ∀ c, (s.retire i r r.airOutcome).headReady = some c →
      (s.retire i r r.airOutcome).bridges c s.time.clock = false := by
  intro c head_c
  cases head.symm.trans head_c
  have held_now : (s.retire i r r.airOutcome).record b = some q := State.held_endedInHold head held
  rw [Bool.eq_false_iff, Ne, State.bridges_iff held_now]
  exact fun near => absurd far (not_lt.mpr near.1)

variable (ahead : 0 ≤ (q.launch.add (ticksOf q.inc q.j)).diff s.time.clock)
include ahead

/-- In HOLD the bridged record is decided when its key-up has come due (R139, R145). -/
theorem State.keyUpDue_endedInHold :
    (s.endedInHold i r b).keyUpDue b = true ↔ q.keptKeyUp.diff s.time.clock ≤ 0 := by
  have there := State.held_endedInHold head held
  rw [State.keyUpDue_iff_of_record there]
  exact ⟨fun ⟨_, due, _⟩ => due, fun due =>
    ⟨State.ready_of_headReady (s := s.endedInHold i r b) head there, due, ahead, head, Or.inr (Or.inr ⟨rfl, rfl, rfl⟩)⟩⟩

variable (near : (q.launch.add (ticksOf q.inc q.j)).diff s.time.clock ≤ s.store.settings.bridgeLimit)
include near

theorem State.endOfSymbols_near : s.endOfSymbols i r =
    if (s.endedInHold i r b).keyUpDue b = true then (s.endedInHold i r b).decideThenNext b
      else s.endedInHold i r b := by
  refine State.endOfSymbols_hold s i r head ((State.bridges_iff (q := q) ?_ _).mpr ⟨near, ahead⟩)
  exact State.held_endedInHold head held

/-- The sequencer bridges to a READY record whose key-up is to come (R144, R145). -/
theorem State.lastCarry_holds (early : 0 < q.keptKeyUp.diff s.time.clock) :
    State.retireNext s (s.endOfSymbols i r) = s.endedInHold i r b := by
  have undue : ¬ (s.endedInHold i r b).keyUpDue b = true := by
    rw [State.keyUpDue_endedInHold head held ahead]
    omega
  rw [State.endOfSymbols_near head held ahead near, if_neg undue,
    State.retireNext_of_retired s i (State.record_endedInHold s i r b)]

/-- The sequencer bridges to a READY record whose key-up has come due, and decides it in the event (R139, R144). -/
theorem State.lastCarry_keys (due : q.keptKeyUp.diff s.time.clock ≤ 0) :
    exec (.keyUp b) (s.endedInHold i r b) = .next (State.retireNext s (s.endOfSymbols i r)) := by
  have keyUp_due := (State.keyUpDue_endedInHold head held ahead).mpr due
  have records := State.record_endedInHold s i r b
  rw [State.exec_keyUp_due keyUp_due, State.endOfSymbols_near head held ahead near, if_pos keyUp_due,
    State.retireNext_after_retire s i records]
  rw [State.decideThenNext_record_other _ (State.ne_of_headReady_retire s i r head).symm, records, if_pos rfl]

end

section
variable {s : State} {i : Slot} {r : Record} (was : s.keying.state ≠ .tail)
  (far : ∀ b, (s.retire i r r.airOutcome).headReady = some b →
    (s.retire i r r.airOutcome).bridges b s.time.clock = false)
include was far

/-- With no decision due, the end of symbols takes the sequencer to TAIL, or to IDLE where the tail is 0 (R144, R147). -/
theorem State.lastCarry_tail (short : r.row.tail ≤ 1000000)
    (undue : ∀ b, (s.endedInTail i r).headReady = some b → (s.endedInTail i r).keyUpDue b = false) :
    State.retireNext s (s.endOfSymbols i r) =
      if r.row.tail = 0 then { s.endedInTail i r with keying := idleFor s.keying.txrdy } else s.endedInTail i r := by
  have records := State.record_endedInTail s i r
  rw [State.endOfSymbols_tail s i r far, (LeftAir.of_retire s i was).after_undue undue short]
  split <;> exact State.retireNext_of_retired s i records

omit far in
theorem State.lastCarry_tail_alone (alone : (s.retire i r r.airOutcome).headReady = none)
    (short : r.row.tail ≤ 1000000) : State.retireNext s (s.endOfSymbols i r) =
      if r.row.tail = 0 then { s.endedInTail i r with keying := idleFor s.keying.txrdy } else s.endedInTail i r := by
  have alone_tail : (s.endedInTail i r).headReady = none := (State.headReady_of_table _ _ rfl).trans alone
  exact State.lastCarry_tail was (fun b head => by simp [alone] at head) short fun b head => by simp [alone_tail] at head

section
variable {b : Slot} {q : Record} (head : (s.endedInTail i r).headReady = some b) (held : s.record b = some q)
  (due : q.keptKeyUp.diff s.time.clock ≤ 0) (ahead : 0 ≤ (q.launch.add (ticksOf q.inc q.j)).diff s.time.clock)
include head held due ahead

/-- The head READY record is decided from TAIL in the event, where the tail lasts or the record passes (R139, R144). -/
theorem State.lastCarry_tail_keys (short : r.row.tail ≤ 1000000)
    (stays : r.row.tail ≠ 0 ∨ (s.gateOpen q.row = true ∧ s.keying.txrdy = true)) :
    exec (.keyUp b) (s.endedInTail i r) = .next (State.retireNext s (s.endOfSymbols i r)) := by
  have event := LeftAir.of_retire s i was (r := r)
  rw [State.endOfSymbols_tail s i r far]
  refine event.settled_eq_keyUp head held due ahead (State.retirementDue_endedInTail s i r) ?_
  rwa [event.tailDone_iff short]

variable (zero : r.row.tail = 0) (refused : s.gateOpen q.row = false ∨ s.keying.txrdy = false)
include zero refused

/-- A tail of 0 ends after the decision that refuses the head READY record, which is SHADOW then (R140, R147). -/
theorem State.lastCarry_tail_refuses :
    (∃ p, (State.retireNext s (s.endOfSymbols i r)).record b = some p ∧ p.state = .shadow)
      ∧ ∀ u, exec (.keyUp b) (s.endedInTail i r) = .next u →
        State.retireNext s (s.endOfSymbols i r) = { u with keying := idleFor s.keying.txrdy } := by
  have event := LeftAir.of_retire s i was (r := r)
  rw [State.endOfSymbols_tail s i r far, State.record_retireNext]
  exact ⟨event.shadow_refused head held due ahead refused, fun u decided =>
    event.settled_eq_idle head held due ahead (State.retirementDue_endedInTail s i r) refused
      ((event.tailDone_iff (by omega)).mpr zero) decided⟩

end
end

/-! ### The end of a stop symbol -/

/-- The record SHADOW with the outcome of its stop, and TAIL entered with its row (R104, R119, R149). -/
def State.stoppedInTail (s : State) (i : Slot) (r : Record) (o : BatchOutcome) : State :=
  (s.becomeShadow i o).enterTail r.row true

section
variable {s : State} {i : Slot} {r : Record} (there : s.record i = some r) (air : r.state = .onAir) (o : BatchOutcome)
include there air

theorem State.becomeShadow_onAir : s.becomeShadow i o =
    (s.releaseBlocks r).setRecord i { r.unchained with state := .shadow, shadow := some o } :=
  State.becomeShadow_eq there (by simp [air]) o

theorem State.record_stoppedInTail (j : Slot) : (s.stoppedInTail i r o).record j =
    if j = i then some { r.unchained with state := .shadow, shadow := some o } else s.record j := by
  have record : (s.stoppedInTail i r o).record j = (s.becomeShadow i o).record j := rfl
  rw [record, State.becomeShadow_onAir there air, State.record_setRecord]
  rfl

theorem LeftAir.of_stop (was : s.keying.state ≠ .tail) : LeftAir s (s.stoppedInTail i r o) i r.row where
  was := was
  entered := ⟨{ s.keying with mod := r.row.rest, modstb := true }, by
    rw [State.stoppedInTail, State.becomeShadow_onAir there air]
    rfl⟩
  time := s.becomeShadow_time i o
  store := s.becomeShadow_store i o
  txrdy := by
    have kept : (s.stoppedInTail i r o).keying.txrdy = (s.becomeShadow i o).keying.txrdy := rfl
    rw [kept, State.becomeShadow_keying]
  others j other := by rw [State.record_stoppedInTail there air, if_neg other]
  unready := by
    rw [State.isReady, State.record_stoppedInTail there air, if_pos rfl]
    rfl

/-- A record on the air does not wait, so the head READY record stands (R108). -/
theorem State.headReady_stoppedInTail : (s.stoppedInTail i r o).headReady = s.headReady := by
  have record := State.record_stoppedInTail there air o
  refine State.headReady_of_unwaiting (fun j other => (record j).trans (if_neg other)) (fun q held => ?_) fun q held => ?_
  · cases there.symm.trans held
    simp [Record.Waits, air]
  · cases ((record i).trans (if_pos rfl)).symm.trans held
    exact not_waits_of_shadow rfl

theorem State.keyUpReached_stoppedInTail (quiet : ∀ j, s.keyUpReached j = false) (j : Slot) :
    (s.stoppedInTail i r o).keyUpReached j = false := by
  have record := State.record_stoppedInTail there air o j
  by_cases e : j = i
  · rw [if_pos e] at record
    rw [State.keyUpReached, record]
    rfl
  · rw [if_neg e] at record
    rw [State.keyUpReached_congr record (s.becomeShadow_time i o), quiet j]

theorem State.retirementDue_stoppedInTail (early : 0 < (r.nominalEnd.add s.store.settings.guard).diff s.time.clock) :
    (s.stoppedInTail i r o).retirementDue i = false := by
  have record := State.record_stoppedInTail there air o i
  have store : (s.stoppedInTail i r o).store = s.store := s.becomeShadow_store i o
  have time : (s.stoppedInTail i r o).time = s.time := s.becomeShadow_time i o
  rw [Bool.eq_false_iff, Ne, State.retirementDue_iff, record, if_pos rfl, store, time]
  rintro ⟨p, ⟨⟩, -, reached⟩
  exact absurd early (not_lt.mpr reached)

/-- Whatever follows in the event, the record is SHADOW, and the history and the counters stand: a stop is no retirement. -/
theorem State.stoppedCarry_frame :
    (State.retireNext s (State.afterTailEntry s (s.stoppedInTail i r o))).record i =
        some { r.unchained with state := .shadow, shadow := some o }
      ∧ (State.retireNext s (State.afterTailEntry s (s.stoppedInTail i r o))).history = s.history
      ∧ (State.retireNext s (State.afterTailEntry s (s.stoppedInTail i r o))).counters = s.counters := by
  have record := (State.record_stoppedInTail there air o i).trans (if_pos rfl)
  have unready : (s.stoppedInTail i r o).isReady i = false := by
    rw [State.isReady, record]
    rfl
  rw [State.record_retireNext, State.record_afterTailEntry unready, State.retireNext_history,
    State.afterTailEntry_history, State.retireNext_counters, State.afterTailEntry_counters]
  exact ⟨record, s.becomeShadow_history i o, s.becomeShadow_counters i o⟩

end

/-! ### O47 -/

/-- Settles O47: the end of symbols by the head READY record that the retirement leaves, and the stop by the one that
stood. -/
theorem lastCarryEndsTheRecord : Obligations.LastCarryEndsTheRecord := by
  unfold Obligations.LastCarryEndsTheRecord
  refine ⟨fun s i r sending full current there running last => ?_,
    fun s i r st sending full current there air stopped reached => ?_⟩
  · intro o retired entered rest idle tailed
    have step : exec .pacerCarry s = .next (State.retireNext s.takeCarry (s.takeCarry.endOfSymbols i r)) := by
      rw [exec_pacerCarry_due sending full, State.carry_last current there running last]
      rfl
    have was : s.takeCarry.keying.state ≠ .tail := by simp [sending]
    have head_eq : (s.takeCarry.retire i r r.airOutcome).headReady = retired.headReady :=
      State.headReady_of_table _ _ rfl
    have head_tail : (s.takeCarry.endedInTail i r).headReady = retired.headReady := State.headReady_of_table _ _ rfl
    have in_tail : tailed = s.takeCarry.endedInTail i r := rfl
    obtain ⟨vacant, history, counters⟩ := s.takeCarry.lastCarry_frame i r
    rw [in_tail]
    refine ⟨_, step, vacant, history.trans (appendHistory_eq _ _), ?_,
      (State.record_retire s i i r o).trans (if_pos rfl),
      fun e other => (State.record_retire s i e r o).trans (if_neg other), counters, fun alone long short => ?_,
      fun alone zero => ?_, fun b q head held => ?_⟩
    · rw [history, counters]
      rfl
    · exact (State.lastCarry_tail_alone was (head_eq.trans alone) short).trans (if_neg (by omega))
    · exact (State.lastCarry_tail_alone was (head_eq.trans alone) (by omega)).trans (if_pos zero)
    · intro ahead limit keyUp bridged
      have in_hold : bridged = s.takeCarry.endedInHold i r b := rfl
      have head_now := head_eq.trans head
      have head_tailed := head_tail.trans head
      have far := fun is_far : limit < ahead => State.not_bridges_of_far head_now held is_far
      have to_come : limit < ahead → 0 ≤ ahead := by omega
      have undue : 0 < keyUp → ∀ c, (s.takeCarry.endedInTail i r).headReady = some c →
          (s.takeCarry.endedInTail i r).keyUpDue c = false :=
        (LeftAir.of_retire s.takeCarry i was).undue head_tailed held
      rw [in_hold]
      refine ⟨fun launch near early => State.lastCarry_holds head_now held launch near early,
        fun launch near due => State.lastCarry_keys head_now held launch near due, fun is_far early long short => ?_,
        fun is_far early zero => ?_, fun is_far due long short => ?_, fun is_far due zero gate ready => ?_,
        fun is_far due zero refused => ?_⟩
      · exact (State.lastCarry_tail was (far is_far) short (undue early)).trans (if_neg (by omega))
      · exact (State.lastCarry_tail was (far is_far) (by omega) (undue early)).trans (if_pos zero)
      · exact State.lastCarry_tail_keys was (far is_far) head_tailed held due (to_come is_far) short (Or.inl (by omega))
      · exact State.lastCarry_tail_keys was (far is_far) head_tailed held due (to_come is_far) (by omega)
          (Or.inr ⟨gate, ready⟩)
      · exact State.lastCarry_tail_refuses was (far is_far) head_tailed held due (to_come is_far) zero refused
  · intro entered tailed idle
    have step : exec .pacerCarry s = .next (State.retireNext s.takeCarry
        (State.afterTailEntry s.takeCarry (s.takeCarry.stoppedInTail i r st.outcome))) := by
      rw [exec_pacerCarry_due sending full, State.carry_stopped current there stopped reached]
      rfl
    have was : s.takeCarry.keying.state ≠ .tail := by simp [sending]
    have in_tail : tailed = s.takeCarry.stoppedInTail i r st.outcome := by
      rw [State.stoppedInTail, State.becomeShadow_onAir (s := s.takeCarry) there air]
      simp only [tailed, entered, State.becomeShadow_onAir there air]
      rfl
    have event := LeftAir.of_stop (s := s.takeCarry) there air st.outcome was
    obtain ⟨record, history, counters⟩ := State.stoppedCarry_frame (s := s.takeCarry) there air st.outcome
    have head_tail := State.headReady_stoppedInTail (s := s.takeCarry) there air st.outcome
    have in_idle : entered idle =
        { s.takeCarry.stoppedInTail i r st.outcome with keying := idleFor s.keying.txrdy } :=
      congrArg (fun u : State => { u with keying := idleFor s.keying.txrdy }) in_tail
    have undue := fun (quiet : ∀ j, s.keyUpReached j = false) b
        (_ : (s.takeCarry.stoppedInTail i r st.outcome).headReady = some b) =>
      State.keyUpDue_of_not_reached (State.keyUpReached_stoppedInTail (s := s.takeCarry) there air st.outcome quiet b)
    have gone := State.retirementDue_stoppedInTail (s := s.takeCarry) there air st.outcome
    rw [in_tail]
    refine ⟨_, step, record, history, counters, fun quiet long short => ?_, fun quiet zero => ?_,
      fun b q head held due ahead short early => ⟨fun stays => ?_, fun zero refused u decided => ?_⟩⟩
    · exact congrArg (State.retireNext s) ((event.after_undue (undue quiet) short).trans (if_neg (by omega)))
    · rw [in_idle]
      exact congrArg (State.retireNext s) ((event.after_undue (undue quiet) (by omega)).trans (if_pos zero))
    · refine event.settled_eq_keyUp (head_tail.trans head) held due ahead (gone early) ?_
      rw [event.tailDone_iff short]
      exact stays.imp_left (by omega)
    · exact event.settled_eq_idle (head_tail.trans head) held due ahead (gone early) refused
        ((event.tailDone_iff short).mpr zero) decided

end Sys2Proof.Machine
end

section
/-! SUPPORT. Which of two records wins, and O21 (R44, R93, R125, R126; log 28). -/

namespace Sys2Proof.Machine

/-! ### Two instants (R44) -/

/-- Two second counts differ by opposite amounts, but where each is half the range from the other (R44; log 28). -/
theorem secondDiff_swap {a b : Word32} (apart : secondDiff a b ≠ -2147483648) : secondDiff b a = -secondDiff a b := by
  rw [secondDiff_eq] at apart ⊢
  rw [secondDiff_eq]
  omega

theorem secondDiff_swap_ne {a b : Word32} (apart : secondDiff a b ≠ -2147483648) :
    secondDiff b a ≠ -2147483648 := by
  rw [secondDiff_eq] at apart ⊢
  omega

/-- Of two instants either is as far after the other as the other is before it (R44; log 28). -/
theorem Instant.diff_swap {x y : Instant} (apart : secondDiff x.sec y.sec ≠ -2147483648) : y.diff x = -x.diff y := by
  rw [Instant.diff, Instant.diff, secondDiff_swap apart]
  ring

theorem Instant.diff_eq_zero_iff (x y : Instant) : x.diff y = 0 ↔ x = y := by
  refine ⟨fun zero => ?_, fun same => same ▸ Instant.diff_self x⟩
  have x_tick : x.tick.val < 10000000 := x.tick.isLt
  have y_tick : y.tick.val < 10000000 := y.tick.isLt
  have x_sec := x.sec.isLt
  have y_sec := y.sec.isLt
  simp only [Instant.diff, Config.ticksPerSecond] at zero
  have second : secondDiff x.sec y.sec = 0 := by omega
  rw [secondDiff_eq] at second
  exact Instant.eq_of_values (by omega) (by omega)

/-! ### Two numbers (R93) -/

/-- Of two different numbers exactly one precedes the other (R93). -/
theorem precedes_iff_not_precedes {x y : Word16} (differ : x ≠ y) : precedes x y = true ↔ ¬ precedes y x = true := by
  have values : x.toNat ≠ y.toNat := fun same => differ (BitVec.eq_of_toNat_eq same)
  have := x.isLt
  have := y.isLt
  rw [precedes_iff, precedes_iff]
  omega

/-! ### Two records (R125, R126) -/

theorem conflict_comm (g : Nat) (a b : Record) : conflict g a b = conflict g b a := Bool.and_comm _ _

theorem conflict_iff (g : Nat) (a b : Record) : conflict g a b = true ↔
    a.launch.diff (b.nominalEnd.add g) < 0 ∧ b.launch.diff (a.nominalEnd.add g) < 0 := by
  rw [conflict, Bool.and_eq_true, decide_eq_true_eq, decide_eq_true_eq, Record.widenedEnd, Record.widenedEnd]

/-- The higher class wins, then the earlier N, then the number that precedes (R126). -/
theorem wins_iff {a b : Record} (apart : secondDiff a.launch.sec b.launch.sec ≠ -2147483648) :
    wins a b = true ↔ b.cls.val < a.cls.val
      ∨ (a.cls = b.cls ∧ (a.launch.diff b.launch < 0
        ∨ (a.launch = b.launch ∧ precedes a.number b.number = true))) := by
  rw [wins, ← Instant.diff_eq_zero_iff, Instant.diff_swap apart, Fin.ext_iff]
  rcases lt_trichotomy b.cls.val a.cls.val with higher | level | lower
  · simp [higher]
  · rcases lt_trichotomy (a.launch.diff b.launch) 0 with earlier | same | later
    · simp [level, earlier]
    · simp [level, same]
    · simp [level, later, later.ne']
  · simp [lower, lower.ne]

theorem wins_iff_not_wins {a b : Record} (differ : a.number ≠ b.number)
    (apart : secondDiff a.launch.sec b.launch.sec ≠ -2147483648) : wins a b = true ↔ ¬ wins b a = true := by
  rw [wins_iff apart, wins_iff (secondDiff_swap_ne apart), Instant.diff_swap apart, precedes_iff_not_precedes differ,
    ← Instant.diff_eq_zero_iff a.launch, ← Instant.diff_eq_zero_iff b.launch, Instant.diff_swap apart,
    Fin.ext_iff, Fin.ext_iff]
  grind

/-- Settles O21: the order of two instants and of two numbers is total, and so is that of two records. -/
theorem everyPairHasOneWinner : Obligations.EveryPairHasOneWinner := by
  unfold Obligations.EveryPairHasOneWinner
  refine ⟨conflict_comm, fun a b differ apart => ?_, conflict_iff, precedes_iff, fun a b => wins_iff⟩
  rw [wins_iff_not_wins differ apart, Bool.not_eq_true]

end Sys2Proof.Machine
end

section
/-! SUPPORT. The trim of one loser by its state, and the two passes of the resolver (R124, R127 to R129, R131, R132;
log 24). -/

namespace Sys2Proof.Machine

/-! ### A waiting or KEYING loser (R127 to R129) -/

/-- A record that the resolver trims within the table: it waits, or is KEYING (R129). -/
def Record.Trimmable (r : Record) : Prop := r.state = .assembling ∨ r.state = .ready ∨ r.state = .keying

theorem State.trim_of_trimmable {l : Record} (h : l.Trimmable) (s : State) (g : Nat) (i iw : Slot) (w : Record) :
    s.trim g i iw w l = s.trimWaiting g i w l := by
  unfold State.trim
  rcases h with state | state | state <;> rw [state]

theorem droppedByTrim_iff (r : Record) : droppedByTrim r = true ↔
    (r.k : Int) - r.j < r.row.joinMin ∨ r.k ≤ r.j ∨ (0 < r.j ∧ r.row.late.drops = true) := by
  simp only [droppedByTrim, Bool.or_eq_true, Bool.and_eq_true, decide_eq_true_eq, or_assoc]

/-- A loser put back with a changed range, and dropped where the range is (R129). -/
def State.putTrimmed (s : State) (i : Slot) (l : Record) : State :=
  if droppedByTrim l then (s.setRecord i l).dropRecord i .droppedConflict else s.setRecord i l

theorem State.putTrimmed_dropped {l : Record}
    (h : (l.k : Int) - l.j < l.row.joinMin ∨ l.k ≤ l.j ∨ (0 < l.j ∧ l.row.late = .drop))
    (s : State) (i : Slot) : s.putTrimmed i l = (s.setRecord i l).dropRecord i .droppedConflict :=
  if_pos ((droppedByTrim_iff l).mpr (h.imp_right (Or.imp_right (And.imp_right fun drop => by rw [drop]; rfl))))

theorem State.putTrimmed_kept {l : Record} (long : (l.row.joinMin : Int) ≤ (l.k : Int) - l.j) (some_left : l.j < l.k)
    (h : l.j = 0 ∨ l.row.late = .join) (s : State) (i : Slot) : s.putTrimmed i l = s.setRecord i l := by
  refine if_neg fun dropped => ?_
  rcases (droppedByTrim_iff l).mp dropped with short | empty | ⟨cut, drops⟩
  · omega
  · omega
  · rcases h with whole | join
    · omega
    · rw [join] at drops
      cases drops

/-- A loser with its j raised to `b`, its kept key-up and deadline formed again (R53, R54, R127). -/
def Record.headCut (l : Record) (margin b : Nat) : Record := ({ l with j := b }).reformed margin

section
variable (s : State) {g : Nat} (i : Slot) {w l : Record}

theorem State.trimWaiting_head_clear (head : w.launch.diff l.launch ≤ 0) (clear : headBoundary g w l ≤ l.j) :
    s.trimWaiting g i w l = s := by
  simp [State.trimWaiting, headWinner, head, headTrim, Nat.not_lt.mpr clear]

theorem State.trimWaiting_head_cut (head : w.launch.diff l.launch ≤ 0) (cut : l.j < headBoundary g w l) :
    s.trimWaiting g i w l = s.putTrimmed i (l.headCut s.store.settings.setupMargin (headBoundary g w l)) := by
  have raised : headTrim g s.store.settings.setupMargin w l =
      l.headCut s.store.settings.setupMargin (headBoundary g w l) := if_pos cut
  have changed : (l.headCut s.store.settings.setupMargin (headBoundary g w l)).j ≠ l.j := cut.ne'
  simp only [State.trimWaiting, headWinner, head, decide_true, if_true, raised, changed, false_and, if_false,
    State.putTrimmed]

theorem State.trimWaiting_tail_clear (tail : 0 < w.launch.diff l.launch) (clear : l.k ≤ tailBoundary g w l) :
    s.trimWaiting g i w l = s := by
  simp [State.trimWaiting, headWinner, tail.not_ge, tailTrim, Nat.not_lt.mpr clear]

theorem State.trimWaiting_tail_cut (tail : 0 < w.launch.diff l.launch) (cut : tailBoundary g w l < l.k) :
    s.trimWaiting g i w l = s.putTrimmed i { l with k := tailBoundary g w l } := by
  have lowered : tailTrim g w l = { l with k := tailBoundary g w l } := if_pos cut
  simp only [State.trimWaiting, headWinner, tail.not_ge, decide_false, Bool.false_eq_true, if_false, lowered, cut.ne,
    and_false, State.putTrimmed]

end

/-! ### A loser on the air, and a SHADOW one (R129, R131, R132) -/

theorem State.trim_of_shadow {l : Record} (shadow : l.state = .shadow) (s : State) (g : Nat) (i iw : Slot) (w : Record) :
    s.trim g i iw w l = s := by
  rw [State.trim, shadow]

theorem State.trim_of_onAir {l : Record} (air : l.state = .onAir) (s : State) (g : Nat) (i iw : Slot) (w : Record) :
    s.trim g i iw w l = s.trimOnAir g i iw w l := by
  rw [State.trim, air]

/-- A head winner of a loser on the air is dropped where the loser would be cut (R131). -/
theorem State.trimOnAir_head (s : State) {g : Nat} (i iw : Slot) {w l : Record} (head : w.launch.diff l.launch ≤ 0) :
    s.trimOnAir g i iw w l = if l.j < headBoundary g w l then s.becomeShadow iw .droppedLate else s := by
  simp only [State.trimOnAir, headWinner, head, decide_true, if_true]

/-- A loser on the air is cut ahead of the symbol in progress, or else its tail winner is dropped (R132). -/
theorem State.trimOnAir_tail (s : State) {g : Nat} (i iw : Slot) {w l : Record} (tail : 0 < w.launch.diff l.launch) :
    s.trimOnAir g i iw w l =
      if l.k ≤ tailBoundary g w l then s
      else if s.pacer.symbol < tailBoundary g w l then s.setRecord i { l with k := tailBoundary g w l }
      else s.becomeShadow iw .droppedLate := by
  simp only [State.trimOnAir, headWinner, tail.not_ge, decide_false, Bool.false_eq_true, if_false]

/-! ### The two passes (R124) -/

section
variable {s : State} {g : Nat} {new e : Slot}

theorem State.passes_of_records {n x : Record} (other : e ≠ new) (new_there : s.record new = some n)
    (there : s.record e = some x) :
    State.firstPass g new s e = (if conflict g n x = true ∧ wins x n = true then s.trim g new e x n else s)
      ∧ State.secondPass g new s e = (if conflict g n x = true ∧ wins n x = true then s.trim g e new n x else s) := by
  simp only [State.firstPass, State.secondPass, if_neg other, new_there, there, and_self]

theorem State.passes_of_vacant (h : e = new ∨ s.record e = none) :
    State.firstPass g new s e = s ∧ State.secondPass g new s e = s := by
  unfold State.firstPass State.secondPass
  rcases h with same | vacant
  · simp only [same, if_true, and_self]
  · cases s.record new <;> simp [vacant]

/-- A pass over a slot whose record does not conflict with the new one changes nothing (R124). -/
theorem State.passes_of_no_conflict {n : Record} (new_there : s.record new = some n)
    (h : ∀ x, e ≠ new → s.record e = some x → conflict g n x = false) :
    State.firstPass g new s e = s ∧ State.secondPass g new s e = s := by
  by_cases vacant : e = new ∨ s.record e = none
  · exact State.passes_of_vacant vacant
  · obtain ⟨other, held⟩ := not_or.mp vacant
    obtain ⟨x, there⟩ := Option.ne_none_iff_exists'.mp held
    have clear : ¬ conflict g n x = true := by simp [h x other there]
    obtain ⟨first, second⟩ := State.passes_of_records (g := g) other new_there there
    exact ⟨first.trans (if_neg fun lost => clear lost.1), second.trans (if_neg fun won => clear won.1)⟩

end

theorem State.resolve_of_no_conflict {s : State} {new : Slot} {n : Record} (new_there : s.record new = some n)
    (h : ∀ e x, e ≠ new → s.record e = some x → conflict s.store.settings.guard n x = false) : s.resolve new = s := by
  have still := fun e => State.passes_of_no_conflict new_there (h e)
  rw [State.resolve, List.foldl_fixed' fun e => (still e).1, List.foldl_fixed' fun e => (still e).2]

end Sys2Proof.Machine
end

section
/-! SUPPORT. What a creation leaves for the event that follows, and O44 (R53, R54, R114, R124, R127 to R132, R141, R148;
log 24, log 42). -/

namespace Sys2Proof.Machine

theorem mem_ite_singleton {p : Prop} [Decidable p] {c d : Instr} : c ∈ (if p then [d] else []) ↔ c = d ∧ p := by
  rw [List.mem_ite_nil_right, List.mem_singleton, and_comm]

/-- What a creation leaves due of one record: an instant formed again and already reached, a launch already passed, or a
retirement already due (R109, R112 to R114, R130). -/
theorem State.mem_newlyDue_iff (before s : State) (i : Slot) (c : Instr) :
    c ∈ State.newlyDue before s i ↔ ∃ r, s.record i = some r ∧
      ((c = .deadline i ∧ s.deadlineDue i = true ∧ (before.record i).map (·.deadline) ≠ some r.deadline)
        ∨ (c = .keptEndWhileLate i ∧ s.keptEndDue i = true ∧ (before.record i).map (·.k) ≠ some r.k)
        ∨ (c = .missedLaunch i ∧ s.launchMissed i = true ∧ (before.record i).map (·.j) ≠ some r.j)
        ∨ (c = .keyUp i ∧ s.keyUpReached i = true ∧ (before.record i).map (·.keptKeyUp) ≠ some r.keptKeyUp)
        ∨ (c = .retirement i ∧ State.retiresNext before s i = true)) := by
  unfold State.newlyDue
  cases s.record i with
  | none => simp
  | some r => simp only [List.mem_append, mem_ite_singleton, or_assoc, Option.some.injEq, exists_eq_left']

theorem State.blockRead_mem_dueEvents_iff (s : State) : .blockRead ∈ s.dueEvents ↔ s.blockWanted.isSome = true :=
  s.mem_dueEvents_iff .blockRead

theorem State.retiresNext_iff_of_record {before s : State} {i : Slot} {r : Record} (there : s.record i = some r) :
    State.retiresNext before s i = true ↔ r.state = .shadow
      ∧ (r.nominalEnd.add s.store.settings.guard).diff s.time.clock ≤ 0
      ∧ ∀ q, before.record i = some q → q.state ≠ .shadow := by
  simp [State.retiresNext_iff, there]

/-- Settles O44: each trim by the state of its loser, the drop by the sequencer, the passes slot by slot, and the events
left record by record. -/
theorem loserIsTrimmedByItsState : Obligations.LoserIsTrimmedByItsState := by
  unfold Obligations.LoserIsTrimmedByItsState
  refine ⟨fun s g i iw w l trimmable => ?_, fun s g i iw w l => ?_, fun s i r o there => ?_, rfl, fun _ _ => rfl,
    fun s g new e n x other new_there there => ?_, fun s g new e vacant => State.passes_of_vacant vacant,
    fun s new n new_there clear => State.resolve_of_no_conflict new_there clear, fun before s => ⟨_, rfl, fun c => ?_⟩⟩
  · intro head keyUp raised tail lowered
    rw [State.trim_of_trimmable trimmable]
    refine ⟨fun first clear => s.trimWaiting_head_clear i first clear, fun first cut => ?_,
      fun later clear => s.trimWaiting_tail_clear i later clear, fun later cut => ?_⟩
    · have put : s.trimWaiting g i w l = s.putTrimmed i raised := s.trimWaiting_head_cut i first cut
      rw [put]
      have cut_head : 0 < raised.j := (Nat.zero_le l.j).trans_lt cut
      exact ⟨fun bad => State.putTrimmed_dropped (l := raised)
          (bad.imp_right (Or.imp_right fun drop => ⟨cut_head, drop⟩)) s i,
        fun long left join => State.putTrimmed_kept (l := raised) long left (Or.inr join) s i⟩
    · have put : s.trimWaiting g i w l = s.putTrimmed i lowered := s.trimWaiting_tail_cut i later cut
      rw [put]
      exact ⟨fun bad => State.putTrimmed_dropped (l := lowered) bad s i,
        fun long left policy => State.putTrimmed_kept (l := lowered) long left policy s i⟩
  · intro head tail
    refine ⟨fun shadow => State.trim_of_shadow shadow s g i iw w, fun air first clear => ?_, fun air first cut => ?_,
      fun air later clear => ?_, fun air later cut ahead => ?_, fun air later cut passed => ?_⟩
    all_goals rw [State.trim_of_onAir air]
    · exact (s.trimOnAir_head i iw first).trans (if_neg clear.not_gt)
    · exact (s.trimOnAir_head i iw first).trans (if_pos cut)
    · exact (s.trimOnAir_tail i iw later).trans (if_pos clear)
    · exact (s.trimOnAir_tail i iw later).trans ((if_neg cut.not_ge).trans (if_pos ahead))
    · exact (s.trimOnAir_tail i iw later).trans ((if_neg cut.not_ge).trans (if_neg passed.not_gt))
  · intro shadowed
    refine ⟨fun other => State.dropRecord_other there other o,
      fun keying lead => State.dropRecord_keying there keying (Or.inl ⟨lead, rfl, rfl⟩) o, fun row keying hold rest => ?_⟩
    rw [State.dropRecord_keying there keying (Or.inr ⟨hold, rest, rfl⟩) o, Sequencer.inTail_own rest]
  · intro oldWins newWins
    obtain ⟨first, second⟩ := State.passes_of_records (g := g) other new_there there
    exact ⟨fun old => first.trans (if_pos old), fun no_old => first.trans (if_neg no_old),
      fun new_one => second.trans (if_pos new_one), fun no_new => second.trans (if_neg no_new)⟩
  · have read : c ∈ (if s.blockWanted.isSome = true ∧ before.blockWanted.isSome = false then [Instr.blockRead] else []) ↔
        c = .blockRead ∧ .blockRead ∈ s.dueEvents ∧ .blockRead ∉ before.dueEvents := by
      rw [mem_ite_singleton, State.blockRead_mem_dueEvents_iff, State.blockRead_mem_dueEvents_iff, Bool.not_eq_true]
    simp only [List.mem_append, List.mem_flatMap, mem_allSlots, true_and, State.mem_newlyDue_iff, read]
    rw [or_comm]
    refine or_congr_right (exists_congr fun i => exists_congr fun r => and_congr_right fun there => ?_)
    rw [State.deadlineDue_iff_of_record there, State.keptEndDue_iff_of_record there, State.launchMissed_iff_of_record there,
      State.retiresNext_iff_of_record there]
    simp only [State.keyUpReached_iff, there, Option.some.injEq, exists_eq_left', and_assoc]

end Sys2Proof.Machine
end

section
/-! SUPPORT. The tail end and the fall of TXRDY, and O49 (R138, R139, R147, R150; log 3). -/

namespace Sys2Proof.Machine

section
variable {s : State}

/-! ### TAIL_END -/

theorem State.decideIfDue_due {b : Slot} (due : s.keyUpDue b = true) : s.decideIfDue = s.decideThenNext b := by
  simp only [State.decideIfDue, State.headReady_of_keyUpDue due, due, if_true]

theorem exec_tailEnd_undue (left : s.tailDone = false) : exec .tailEnd s = .next s := by
  simp only [exec, execTailEnd, left, Bool.false_eq_true, if_false, State.retireNext_self]

theorem exec_tailEnd_done (past : s.tailDone = true) :
    exec .tailEnd s = .next (State.retireNext s.enterIdle s.enterIdle.decideIfDue) := by
  have retires : State.retireNext s = State.retireNext s.enterIdle :=
    funext fun _ => State.retireNext_congr fun _ _ => rfl
  simp only [exec, execTailEnd, past, if_true, retires]

theorem exec_tailEnd_quiet (past : s.tailDone = true) (quiet : ∀ i, s.keyUpReached i = false) :
    exec .tailEnd s = .next s.enterIdle := by
  rw [exec_tailEnd_done past, State.decideIfDue_without s.enterIdle quiet, State.retireNext_self]

/-- The tail end leaves the head READY record to a decision from IDLE, the one that KEY_UP makes (R139, R147). -/
theorem exec_tailEnd_due {i : Slot} {q : Record} (past : s.tailDone = true) (head : s.headReady = some i)
    (held : s.record i = some q) (due : q.keptKeyUp.diff s.time.clock ≤ 0)
    (ahead : 0 ≤ (q.launch.add (ticksOf q.inc q.j)).diff s.time.clock) :
    exec .tailEnd s = exec (.keyUp i) s.enterIdle := by
  have keyUp_due : s.enterIdle.keyUpDue i = true :=
    (State.keyUpDue_iff_of_record (s := s.enterIdle) held).mpr
      ⟨State.ready_of_headReady head held, due, ahead, (State.headReady_of_table s _ rfl).trans head, Or.inl rfl⟩
  rw [exec_tailEnd_done past, State.decideIfDue_due keyUp_due, State.exec_keyUp_due keyUp_due]

/-! ### TXRDY_FALL -/

theorem exec_txrdyFall_low (low : s.keying.txrdy = false) : exec .txrdyFall s = .next s := by
  simp only [exec, execTxrdyFall, low, Bool.false_eq_true, if_false]

/-- A fall moves the pin, and latches TX while KEY is asserted (R150). -/
theorem exec_txrdyFall_high (high : s.keying.txrdy = true) :
    exec .txrdyFall s = .next (if s.keying.state = .idle then { s with keying := { s.keying with txrdy := false } }
      else { s with keying := { s.keying with txrdy := false } }.latch .tx) := by
  simp only [exec, execTxrdyFall, high, if_true, State.key, decide_eq_true_eq, ite_not]

end

/-- Settles O49: the tail end by whether it is reached and by the key-up it leaves due, the fall by the pin and by KEY. -/
theorem tailEndReleasesKeyAndTxrdyFallLatches : Obligations.TailEndReleasesKeyAndTxrdyFallLatches := by
  unfold Obligations.TailEndReleasesKeyAndTxrdyFallLatches
  refine ⟨fun s x tail ends => ?_,
    fun s => ⟨fun high keyed => ?_, fun high idle => ?_, fun low => exec_txrdyFall_low low⟩⟩
  · have done_iff : s.tailDone = true ↔ x.diff s.time.clock ≤ 0 := by
      simp [State.tailDone_iff, tail, ends]
    refine ⟨fun past quiet => exec_tailEnd_quiet (done_iff.mpr past) quiet,
      fun i q past head held due ahead => exec_tailEnd_due (done_iff.mpr past) head held due ahead,
      fun later => exec_tailEnd_undue (Bool.eq_false_iff.mpr fun done => ?_)⟩
    have past := done_iff.mp done
    omega
  · rw [exec_txrdyFall_high high, if_neg keyed]
    rfl
  · rw [exec_txrdyFall_high high, if_pos idle]

end Sys2Proof.Machine
end

section
/-! SUPPORT. The warm restart that a RESTART called, and O23 (R19, R41, R77, R105, R122, R152, R154, R167, R170, R172; log 3,
log 42). -/

namespace Sys2Proof.Machine

section
variable {s : State}

theorem exec_warmRestart_uncalled (uncalled : s.restartCalled = false) : exec .warmRestart s = .next s := by
  simp only [exec, execWarmRestart, uncalled, Bool.false_eq_true, if_false]

theorem exec_warmRestart_busy (called : s.restartCalled = true) (busy : s.busy = true) :
    exec .warmRestart s = .next { s with restartCalled := false } := by
  simp only [exec, execWarmRestart, called, busy, if_true]

theorem exec_warmRestart_free (called : s.restartCalled = true) (free : s.busy = false) :
    exec .warmRestart s = .next s.warmRestart := by
  simp only [exec, execWarmRestart, called, free, if_true, Bool.false_eq_true, if_false]

end

/-- A warm restart clears the frame buffers of a link and leaves the rest of it (R77, R167). -/
@[simp] theorem State.link_warmRestart (s : State) (l : Link) : s.warmRestart.link l = { s.link l with buffers := [] } := by
  cases l <;> rfl

/-- Settles O23, by whether a RESTART called and by the engine. The two links and the batch table are read by their own lemmas;
each other register is what the table of R167 has for it. -/
theorem warmRestartClearsTheTrafficAlone : Obligations.WarmRestartClearsTheTrafficAlone := by
  unfold Obligations.WarmRestartClearsTheTrafficAlone
  refine fun s => ⟨fun called free => ?_, fun called occupied => ?_, exec_warmRestart_uncalled⟩
  · exact ⟨s.warmRestart, exec_warmRestart_free called (s.busy_eq_false_iff.mpr free), rfl, rfl, s.link_warmRestart, rfl, rfl,
      s.record_warmRestart, rfl, rfl, rfl, rfl, rfl, rfl, rfl, rfl⟩
  · exact exec_warmRestart_busy called (decide_eq_true occupied)

end Sys2Proof.Machine
end

section
/-! SUPPORT. Every counter has a row of its own, the alarm output bit by bit, and ACK_ALARMS and CLEAR_COUNTERS, with O59 (R165,
R171, R172, R174, R175, R180). -/

namespace Sys2Proof.Machine

/-! ### The rows of the counters (R171, R180) -/

/-- The ten counters of a link in the order of their rows. -/
def LinkCounter.inRowOrder : List LinkCounter :=
  [.attempt .good, .attempt .badCheck, .attempt .empty, .attempt .oversize, .attempt .badChar, .attempt .gap,
    .attempt .overrun, .partsTaken, .replyLost, .repliesSent]

/-- The fifty counters in the order of their rows. -/
def Counter.inRowOrder : List Counter :=
  LinkCounter.inRowOrder.map (.link .a) ++ LinkCounter.inRowOrder.map (.link .b)
    ++ [AdmissionCounter.noTime, .badPart, .badTag, .lateCopy, .mismatch, .duplicate, .zoneOff, .noMode, .tooEarly,
      .tableFull, .storeFull, .foreign, .unknownKind, .takenToShadow].map .admission
    ++ [BatchOutcome.launched, .trimmed, .joined, .tracked, .muted, .notReady, .droppedLate, .droppedIncomplete,
      .droppedConflict, .aborted, .storeFault].map .outcome
    ++ [MgmtCounter.requestsTaken, .busyAnswers, .busyDiscards, .stallEnds].map .mgmt ++ [.todFailures]

/-- The row of a counter is its place among the fifty. -/
theorem Counter.inRowOrder_row (c : Counter) : Counter.inRowOrder[c.row.val]? = some c := by
  cases c with
  | link l c =>
    cases c with
    | attempt d => cases l <;> cases d <;> rfl
    | partsTaken | replyLost | repliesSent => cases l <;> rfl
  | admission c => cases c <;> rfl
  | outcome o => cases o <;> rfl
  | mgmt c => cases c <;> rfl
  | todFailures => rfl

/-- No two counters share a row. -/
theorem Counter.row_injective : Function.Injective Counter.row := fun c d same =>
  Option.some.inj (by rw [← c.inRowOrder_row, same, d.inRowOrder_row])

theorem State.counter_bump_self (s : State) (c : Counter) :
    (s.bump c).counter c = if s.counter c = 4294967295 then 4294967295 else s.counter c + 1 := by
  rw [State.counter_bump, if_pos rfl, countUp]
  split
  · next full => exact full
  · rfl

theorem State.counter_bump_other (s : State) {c d : Counter} (other : d ≠ c) : (s.bump c).counter d = s.counter d := by
  rw [State.counter_bump, if_neg fun same => other (Counter.row_injective same).symm]

/-! ### The alarm output (R175) -/

/-- Two words have a set bit in common exactly when their conjunction is not 0. -/
theorem and_ne_zero_iff_common_bit {w : Nat} (x y : BitVec w) :
    x &&& y ≠ 0 ↔ ∃ i, i < w ∧ x.getLsbD i = true ∧ y.getLsbD i = true := by
  rw [ne_eq, BitVec.eq_of_getLsbD_eq_iff]
  simp [-BitVec.getLsbD_eq_getElem]

theorem State.alarmOut_iff (s : State) : s.alarmOut = true ↔
    ∃ i, i < 8 ∧ s.latches.getLsbD i = true ∧ s.store.settings.alarmEnable.getLsbD i = true := by
  rw [State.alarmOut, decide_eq_true_iff, and_ne_zero_iff_common_bit]

/-! ### The two requests (R165, R172, R174) -/

section
variable {s : State}

theorem exec_ackAlarms_free (free : s.engine = .free) (h : Handed) (set : Byte) :
    exec (.ackAlarms h [set]) s = .next ((s.bump (.mgmt .requestsTaken)).doAckAlarms h [set]) :=
  congrArg Host.Outcome.next (State.takeRequest_free free rfl h)

theorem exec_clearCounters_free (free : s.engine = .free) (h : Handed) :
    exec (.clearCounters h []) s = .next ((s.bump (.mgmt .requestsTaken)).doClearCounters h) :=
  congrArg Host.Outcome.next (State.takeRequest_free free rfl h)

end

/-- A clear leaves nothing of the counter that was raised before it (R172). -/
theorem State.doClearCounters_bump (s : State) (c : Counter) (h : Handed) :
    (s.bump c).doClearCounters h = s.doClearCounters h := rfl

/-- Settles O59: each request is carried out by the free engine, a counter's row is its own, and the output is read bit by
bit. -/
theorem ackAndClearTouchNothingElse : Obligations.AckAndClearTouchNothingElse := by
  unfold Obligations.AckAndClearTouchNothingElse
  refine ⟨fun s h set free => ⟨exec_ackAlarms_free free h set, ?_⟩,
    fun s c => ⟨s.counter_bump_self c, fun d other => s.counter_bump_other other, rfl⟩, State.alarmOut_iff⟩
  rw [exec_clearCounters_free free, State.doClearCounters_bump]
  rfl

end Sys2Proof.Machine
end

section
/-! SUPPORT. What no counter counts: the operations of keying, of the batch table, of the conflict resolver, of a link and of the
site time unit that leave the fifty counters as they stand (R171). The named updates have it in `Laws/State.lean`. -/

namespace Sys2Proof.Machine

theorem counters_foldl {α : Type} {f : State → α → State} (hf : ∀ s a, (f s a).counters = s.counters) (xs : List α)
    (s : State) : (xs.foldl f s).counters = s.counters := by
  induction xs generalizing s with
  | nil => rfl
  | cons x xs ih => exact (ih (f s x)).trans (hf s x)

/-! ### Keying and the batch table -/

@[simp] theorem State.settleKeying_counters (before s : State) : (State.settleKeying before s).counters = s.counters :=
  (State.afterTailEntry_counters before _).trans (counters_ite rfl rfl)

@[simp] theorem State.readOnAir_counters (s : State) (i : Slot) (r : Record) (b : Nat) :
    (s.readOnAir i r b).counters = s.counters := by
  unfold State.readOnAir
  split <;> rfl

@[simp] theorem State.readBeforeLaunch_counters (s : State) (i : Slot) (r : Record) (b : Nat) :
    (s.readBeforeLaunch i r b).counters = s.counters := by
  unfold State.readBeforeLaunch
  split <;> simp

@[simp] theorem State.stopRecord_counters (s : State) (i : Slot) (r : Record) (o : BatchOutcome) :
    (s.stopRecord i r o).counters = s.counters := by simp [State.stopRecord]

@[simp] theorem State.nextSymbol_counters (s : State) (i : Slot) (r : Record) :
    (s.nextSymbol i r).counters = s.counters := rfl

@[simp] theorem State.completeRecord_counters (s : State) (i : Slot) : (s.completeRecord i).counters = s.counters := by
  unfold State.completeRecord
  split
  · rfl
  · exact counters_ite (counters_ite (counters_ite (by simp) rfl) rfl) rfl

@[simp] theorem State.deadlineActs_counters (s : State) (i : Slot) : (s.deadlineActs i).counters = s.counters := by
  unfold State.deadlineActs
  split
  · rfl
  · exact counters_ite (by simp) rfl

@[simp] theorem State.takeSwitch_counters (s : State) : s.takeSwitch.counters = s.counters := by
  unfold State.takeSwitch
  split <;> rfl

@[simp] theorem State.abortRecord_counters (s : State) (i : Slot) : (s.abortRecord i).counters = s.counters := by
  unfold State.abortRecord
  split
  · rfl
  · split
    · rfl
    · exact counters_ite rfl rfl
    all_goals simp

/-! ### The conflict resolver -/

@[simp] theorem State.trim_counters (s : State) (guard : Nat) (i iw : Slot) (w l : Record) :
    (s.trim guard i iw w l).counters = s.counters := by
  have waiting : (s.trimWaiting guard i w l).counters = s.counters := counters_ite rfl (counters_ite (by simp) rfl)
  have onAir : (s.trimOnAir guard i iw w l).counters = s.counters :=
    counters_ite (counters_ite (by simp) rfl) (counters_ite rfl (counters_ite rfl (by simp)))
  unfold State.trim
  split
  · rfl
  · exact onAir
  all_goals exact waiting

theorem State.firstPass_counters (guard : Nat) (new : Slot) (s : State) (e : Slot) :
    (State.firstPass guard new s e).counters = s.counters := by
  refine counters_ite rfl ?_
  split
  · exact counters_ite (by simp) rfl
  · rfl

theorem State.secondPass_counters (guard : Nat) (new : Slot) (s : State) (e : Slot) :
    (State.secondPass guard new s e).counters = s.counters := by
  refine counters_ite rfl ?_
  split
  · exact counters_ite (by simp) rfl
  · rfl

@[simp] theorem State.resolve_counters (s : State) (new : Slot) : (s.resolve new).counters = s.counters :=
  (counters_foldl (State.secondPass_counters _ new) allSlots _).trans
    (counters_foldl (State.firstPass_counters _ new) allSlots s)

/-! ### The link and the nonvolatile copy -/

@[simp] theorem State.silenceCheck_counters (s : State) (l : Link) : (s.silenceCheck l).counters = s.counters :=
  counters_ite (by simp) rfl

@[simp] theorem State.storeEnded_counters (s : State) (op : StoreOp) (verified : Bool) :
    (s.storeEnded op verified).counters = s.counters := counters_ite (by simp) (by simp)

/-! ### The site time unit -/

@[simp] theorem State.enterLocked_counters (s : State) : s.enterLocked.counters = s.counters := by simp [State.enterLocked]

@[simp] theorem State.holdoverFromLocked_counters (s : State) : s.holdoverFromLocked.counters = s.counters := by
  simp [State.holdoverFromLocked]

@[simp] theorem State.referenceLost_counters (s : State) : s.referenceLost.counters = s.counters := by
  unfold State.referenceLost
  split <;> simp

@[simp] theorem State.qualityRun_counters (s : State) (fix : Bool) : (s.qualityRun fix).counters = s.counters :=
  counters_ite rfl (counters_ite (counters_ite (by simp) rfl) rfl)

@[simp] theorem State.edgeStarts_counters (s : State) (t : TimeUnit) (e : Bool) :
    (s.edgeStarts t e).counters = s.counters := counters_ite (by simp) rfl

@[simp] theorem State.edgeLocked_counters (s : State) (t : TimeUnit) : (s.edgeLocked t).counters = s.counters :=
  counters_ite rfl (counters_ite (by simp) rfl)

theorem stepRecord_counters (p q : Instant) (s : State) (i : Slot) : (stepRecord p q s i).counters = s.counters := by
  have deadline : ∀ s : State, (stepDeadline p q s i).counters = s.counters := fun s => by
    unfold stepDeadline
    split
    · exact counters_ite (by simp) rfl
    · rfl
  have keptEnd : ∀ s : State, (stepKeptEnd p q s i).counters = s.counters := fun s => by
    unfold stepKeptEnd
    split
    · exact counters_ite (by simp) rfl
    · rfl
  have ready : ∀ s : State, (stepReady p q s i).counters = s.counters := fun s => by
    unfold stepReady
    split
    · exact counters_ite (counters_ite (by simp) (counters_ite (by simp) rfl)) rfl
    · rfl
  rw [stepRecord_eq, ready, keptEnd, deadline]

end Sys2Proof.Machine
end

section
/-! SUPPORT. No counter falls: the relation, and every operation of the model but a restart and CLEAR_COUNTERS as a move that
has it (R171, R172). -/

namespace Sys2Proof.Machine

/-- No counter falls from one state to another (R171). -/
def CountersRise (s t : State) : Prop := ∀ c : Counter, (s.counter c).toNat ≤ (t.counter c).toNat

namespace CountersRise

theorem of_same {s t : State} (same : t.counters = s.counters) : CountersRise s t := fun c => by
  simp only [State.counter, same, le_refl]

theorem refl (s : State) : CountersRise s s := of_same rfl

theorem trans {s u t : State} (h : CountersRise s u) (h' : CountersRise u t) : CountersRise s t :=
  fun c => (h c).trans (h' c)

/-- A rise out of a state that has the counters of another. -/
theorem via {s u t : State} (h : CountersRise u t) (same : u.counters = s.counters) : CountersRise s t :=
  (of_same same).trans h

/-- A rise, and a move that leaves the counters after it. -/
theorem then_same {s u t : State} (h : CountersRise s u) (same : t.counters = u.counters) : CountersRise s t :=
  h.trans (of_same same)

theorem ite {s t u : State} {p : Prop} [Decidable p] (ht : CountersRise s t) (hu : CountersRise s u) :
    CountersRise s (if p then t else u) := by
  split
  · exact ht
  · exact hu

theorem foldl {α : Type} {f : State → α → State} (hf : ∀ s a, CountersRise s (f s a)) (xs : List α) (s : State) :
    CountersRise s (xs.foldl f s) := by
  induction xs generalizing s with
  | nil => exact refl s
  | cons x xs ih => exact (hf s x).trans (ih (f s x))

theorem bump (s : State) (c : Counter) : CountersRise s (s.bump c) := s.counter_le_bump c

/-! ### Links and replies (R71, R75) -/

theorem endAttempt (s : State) (l : Link) (d : Disposition) : CountersRise s (s.endAttempt l d) :=
  (bump _ _).via (by simp)

theorem placeReply (s : State) (l : Link) (body : List Byte) : CountersRise s (s.placeReply l body) := by
  rcases s.placeReply_cases l body with ⟨-, e⟩ | ⟨-, e⟩
  · exact of_same (by simp [e])
  · rw [e]
    exact bump s _

theorem answer (s : State) (h : Handed) (q : Request) (res : Result) (data : List Byte) :
    CountersRise s (s.answer h q res data) := by
  rcases s.answer_cases h q res data with ⟨-, e⟩ | ⟨-, e⟩
  · rw [e]
    exact placeReply s _ _
  · rw [e]
    exact refl s

theorem applyRate (s : State) (l : Link) (code : Nat) : CountersRise s (s.applyRate l code) :=
  ite (of_same (by simp)) ((endAttempt _ _ _).via (by simp))

theorem rateFollows (h : Handed) (old new : Settings) (s : State) (l : Link) :
    CountersRise s (State.rateFollows h old new s l) :=
  ite (refl s) (ite (of_same (by simp)) (applyRate s l _))

theorem installSettings (s : State) (h : Handed) (new : Settings) {reply : State → State}
    (replied : ∀ u, CountersRise u (reply u)) : CountersRise s (s.installSettings h new reply) :=
  ((replied _).via (by simp)).trans ((rateFollows _ _ _ _ _).trans (rateFollows _ _ _ _ _))

theorem rateTurn (s : State) (l : Link) : CountersRise s (s.rateTurn l) := by
  unfold State.rateTurn
  split
  · exact refl s
  · exact ite (applyRate s l _) (of_same (by simp))

/-- A reply that has gone is counted, and the rate change that waited for it may end a frame attempt (R70, R74). -/
theorem replyGone (s : State) (l : Link) : CountersRise s (s.replyGone l) := by
  have gone : CountersRise s ((s.setLink l (s.link l).replyLeft).bump (.link l .repliesSent)) := (bump _ _).via (by simp)
  rw [State.replyGone_eq, State.sawPlace_eq]
  exact (gone.trans (rateTurn _ l)).then_same (by simp)

/-! ### Retirement (R117) -/

theorem retire (s : State) (i : Slot) (r : Record) (o : BatchOutcome) : CountersRise s (s.retire i r o) :=
  (bump _ _).via rfl

theorem retireShadow (s : State) (i : Slot) : CountersRise s (s.retireShadow i) := by
  unfold State.retireShadow
  split
  · exact refl s
  · split
    · exact retire s i _ _
    · exact refl s

theorem endOfSymbols (s : State) (i : Slot) (r : Record) : CountersRise s (s.endOfSymbols i r) := by
  have retired := retire s i r r.airOutcome
  have tail := retired.then_same (t := State.afterTailEntry s ((s.retire i r r.airOutcome).enterTail r.row true)) (by simp)
  unfold State.endOfSymbols
  dsimp only
  split
  · exact tail
  · exact ite (retired.then_same (counters_ite (by simp) rfl)) tail

theorem carry (s : State) : CountersRise s s.carry := by
  unfold State.carry
  split
  · exact refl s
  · split
    · exact refl s
    · next i _ _ r _ =>
      have onward : CountersRise s (if r.k ≤ s.pacer.symbol + 1 then s.takeCarry.endOfSymbols i r
          else s.takeCarry.nextSymbol i r) := ite ((endOfSymbols _ i r).via rfl) (of_same rfl)
      dsimp only
      split
      · exact ite (of_same (by simp)) onward
      · exact onward

/-! ### The management engine (R72, R154, R156) -/

theorem placeReadFrame (s : State) (op : ReadOp) : CountersRise s (s.placeReadFrame op) :=
  (placeReply s op.handed.link _).then_same rfl

theorem writeRows (s : State) (h : Handed) (t : TableId) (first : Nat) (rows : List (List Byte)) :
    CountersRise s (s.writeRows h t first rows) := by
  have refused : ∀ res, CountersRise s (s.answer h .write res []) := fun res => answer s h _ res []
  have replaced : ∀ p f res, CountersRise s ((s.setProfile p f).answer h .write res []) := fun p f res =>
    (answer _ h _ res []).via rfl
  cases t with
  | settings =>
    simp only [State.writeRows]
    split
    · exact refused _
    · exact installSettings s h _ fun u => answer u h _ _ _
  | site p => exact replaced p _ _
  | modes p | zones p =>
    simp only [State.writeRows]
    split
    · exact refused _
    · exact replaced p _ _
  | history | counters | batches => exact refused _

theorem doWrite (s : State) (h : Handed) (params : List Byte) : CountersRise s (s.doWrite h params) := by
  unfold State.doWrite
  split
  · exact answer s h _ _ _
  · exact writeRows s h _ _ _

theorem doRead (s : State) (h : Handed) (params : List Byte) : CountersRise s (s.doRead h params) := by
  unfold State.doRead
  dsimp only
  split
  · exact answer s h _ _ _
  · split
    · exact answer s h _ _ _
    · refine ite (answer s h _ _ _) ?_
      split
      · exact ite (placeReadFrame s _) (of_same rfl)
      all_goals exact refl s

theorem doDigest (s : State) (h : Handed) (params : List Byte) : CountersRise s (s.doDigest h params) := by
  unfold State.doDigest
  split <;> exact answer s h _ _ _

theorem doSwitch (s : State) (h : Handed) (params : List Byte) : CountersRise s (s.doSwitch h params) := by
  have answered : ∀ res, CountersRise s (s.answer h .switch res []) := fun res => answer s h _ res []
  unfold State.doSwitch
  dsimp only
  split
  · exact ite (answered _) (ite (answered _) ((answer _ h _ _ _).via rfl))
  · exact answered _

theorem doCancelSwitch (s : State) (h : Handed) : CountersRise s (s.doCancelSwitch h) :=
  ite (answer s h _ _ _) (ite ((answer _ h _ _ _).via rfl) (answer s h _ _ _))

theorem doRecall (s : State) (h : Handed) : CountersRise s (s.doRecall h) := by
  refine ite (answer s h _ _ _) ?_
  split
  · exact (answer _ h _ _ _).via (by simp)
  · exact (installSettings _ h _ fun u => answer u h _ _ _).via rfl

theorem doAbort (s : State) (h : Handed) (params : List Byte) : CountersRise s (s.doAbort h params) := by
  have settled : ∀ u, u.counters = s.counters →
      CountersRise s ((State.retireNext s (State.settleKeying s u)).answer h .abort .done []) := fun u same =>
    (answer _ h _ _ _).via (by simpa using same)
  refine ite ?_ (ite (settled _ (counters_foldl State.abortRecord_counters allSlots s)) (answer s h _ _ _))
  split
  · exact answer s h _ _ _
  · exact settled _ (by simp)

theorem doSetLinkRate (s : State) (h : Handed) (params : List Byte) : CountersRise s (s.doSetLinkRate h params) := by
  unfold State.doSetLinkRate
  dsimp only
  split
  · exact answer s h _ _ _
  · next l _ =>
    have answered : CountersRise s ({ s with store := { s.store with
        settings := s.store.settings.setRate l (params.getD 1 0).toNat } }.answer h .setLinkRate .done []) :=
      (answer _ h _ _ _).via rfl
    exact ite (answered.trans (rateFollows _ _ _ _ _)) (answer s h _ _ _)

/-- Every request but CLEAR_COUNTERS (R172). -/
theorem carryOut {q : Request} (other : q ≠ .clearCounters) (s : State) (h : Handed) (params : List Byte) :
    CountersRise s (s.carryOut q h params) := by
  match q with
  | .status => exact answer s h _ _ _
  | .read => exact doRead s h params
  | .write => exact doWrite s h params
  | .digest => exact doDigest s h params
  | .switch => exact doSwitch s h params
  | .cancelSwitch => exact doCancelSwitch s h
  | .store => exact of_same rfl
  | .recall => exact doRecall s h
  | .abort => exact doAbort s h params
  | .ackAlarms => exact (answer _ h _ _ _).via rfl
  | .clearCounters => exact absurd rfl other
  | .setLinkRate => exact doSetLinkRate s h params
  | .restart => exact (answer s h _ _ _).then_same rfl

theorem turnAway (s : State) (q : Request) (h : Handed) : CountersRise s (s.turnAway q h) := by
  unfold State.turnAway
  split
  · exact (bump s _).trans (answer _ h _ _ _)
  all_goals exact bump s _

theorem misunderstood (s : State) (h : Handed) (code : Byte) : CountersRise s (s.misunderstood h code) := by
  unfold State.misunderstood
  split
  · exact placeReply s _ _
  all_goals exact refl s

/-! ### Admission (R95) -/

theorem takeToShadow (s : State) (i : Slot) (r : Record) (p : RawPart) (l : Link) :
    CountersRise s (s.takeToShadow i r p l) := ((bump _ _).via rfl).trans (bump _ _)

theorem storePart (s : State) (i : Slot) (r : Record) (p : RawPart) (l : Link) :
    CountersRise s (s.storePart i r p l) := by
  unfold State.storePart
  split
  · exact (bump s (.admission .storeFull)).then_same rfl
  · exact (bump s (.link l .partsTaken)).then_same (by simp [State.bump])

theorem placeFirstPart (s : State) (i : Slot) (p : RawPart) (l : Link) : CountersRise s (s.placeFirstPart i p l) := by
  unfold State.placeFirstPart
  split
  · exact refl s
  · exact ite (takeToShadow s i _ p l) (storePart s i _ p l)

theorem newBatch (s : State) (p : RawPart) (l : Link) : CountersRise s (s.newBatch p l) := by
  refine ite (bump s _) (ite (bump s _) (ite (bump s _) ?_))
  split
  · exact (bump s _).then_same rfl
  · exact (placeFirstPart _ _ p l).via (by simp)

theorem knownBatch (s : State) (i : Slot) (r : Record) (p : RawPart) (l : Link) :
    CountersRise s (s.knownBatch i r p l) := by
  refine ite (bump s _) (ite (bump s _) ?_)
  split
  · exact takeToShadow s i r p l
  · exact storePart s i r p l
  all_goals exact bump s _

theorem takePart (s : State) (l : Link) (body : List Byte) : CountersRise s (s.takePart l body) := by
  refine ite (bump s _) (ite (bump s _) (ite (bump s _) (ite (bump s _) ?_)))
  split
  · next i _ =>
    split
    · next r _ => exact (knownBatch s i r (rawPart body) l).then_same (by simp)
    · exact refl s
  · exact (newBatch s (rawPart body) l).then_same (by simp [State.followCreation])

/-! ### The site time unit (R3, R9) -/

theorem todByte (s : State) (b : Byte) (e : Bool) : CountersRise s (s.todByte b e) := by
  have ignored : CountersRise s s.todIgnored := (bump _ _).via rfl
  unfold State.todByte
  split
  · exact ite (of_same rfl) (refl s)
  · exact ite (of_same rfl) (ite (of_same (by simp [State.todGood])) ignored)

theorem edgeTaken (s : State) : CountersRise s s.edgeTaken := by
  rw [State.edgeTaken_eq]
  exact (ite (refl s) (bump s _)).then_same rfl

/-- A step of the clock counts the records that retire at it (R117, R121). -/
theorem stepClock (s : State) (second : Word32) : CountersRise s (s.stepClock second) := by
  have pass : ∀ (u : State) p q, CountersRise u (u.stepPass p q) := fun u p q =>
    ite (refl u) ((foldl retireShadow _ _).via (counters_foldl (stepRecord_counters p q) _ u))
  exact (pass _ _ _).via (counters_ite (by simp) (by simp))

theorem edgeAcquiring (s : State) (t : TimeUnit) : CountersRise s (s.edgeAcquiring t) := by
  rw [State.edgeAcquiring_eq]
  split
  · exact of_same rfl
  · exact ite (of_same rfl) (ite (of_same (by simp [State.runCounted]))
      (ite ((stepClock _ _).via rfl) (of_same rfl)))

theorem ppsEdge (s : State) : CountersRise s s.ppsEdge := by
  refine (edgeTaken s).trans ?_
  unfold State.ppsEdge
  dsimp only
  split
  · exact of_same (by simp)
  · exact edgeAcquiring _ _
  · exact of_same (by simp)
  · exact of_same (by simp)

theorem beat (s : State) : CountersRise s s.beat := of_same (by rw [State.beat_eq])

end CountersRise

end Sys2Proof.Machine
end

section
/-! SUPPORT. Where a CLEAR_COUNTERS may be carried out, what it leaves of the counters, and O13: by the request itself, out of a
frame taken, and by a step (R78, R155, R165, R171, R172). -/

namespace Sys2Proof.Machine

/-! ### The counters after a CLEAR_COUNTERS (R172) -/

/-- Every counter is 0, but for the reply of the request, counted as lost where four are queued before it (R71, R172). -/
def CountersCleared (s t : State) : Prop :=
  ∀ c : Counter, t.counter c = 0 ∨ (t.counter c = 1 ∧ ∃ l, c = .link l .replyLost ∧ 4 ≤ (s.link l).replies.length)

/-- No counter falls, or a CLEAR_COUNTERS is carried out for a cause that is given. -/
def CountersMove (cause : Prop) (s t : State) : Prop := CountersRise s t ∨ (cause ∧ CountersCleared s t)

theorem counter_of_zeros {s : State} (zeros : s.counters = Vector.replicate Config.counters 0) (c : Counter) :
    s.counter c = 0 := by
  simp [State.counter, zeros, Vector.get]

/-- A request answered while every counter is 0 may lose its reply, and no more is counted. -/
theorem CountersCleared.answer {s : State} (zeros : ∀ c, s.counter c = 0) (h : Handed) (q : Request) (res : Result)
    (data : List Byte) : CountersCleared s (s.answer h q res data) := by
  intro c
  rcases s.answer_cases h q res data with ⟨-, e⟩ | ⟨-, e⟩
  · rw [e]
    rcases s.placeReply_cases h.link (replyBody h q.code res.code 0 true data) with ⟨-, e⟩ | ⟨full, e⟩
    · exact Or.inl (by rw [e, State.counter, State.setLink_counters]; exact zeros c)
    · rw [e]
      by_cases lost : c = .link h.link .replyLost
      · refine Or.inr ⟨?_, h.link, lost, full⟩
        rw [lost, State.counter_bump_self, zeros]
        rfl
      · exact Or.inl ((s.counter_bump_other lost).trans (zeros c))
  · exact Or.inl (by rw [e]; exact zeros c)

theorem State.countersCleared_doClearCounters (s : State) (h : Handed) : CountersCleared s (s.doClearCounters h) :=
  CountersCleared.answer (s := { s with counters := Vector.replicate Config.counters 0 }) (counter_of_zeros rfl)
    h .clearCounters .done []

namespace CountersMove

theorem imp {p q : Prop} {s t : State} (h : CountersMove p s t) (weaker : p → q) : CountersMove q s t :=
  Or.imp id (fun ⟨cause, cleared⟩ => ⟨weaker cause, cleared⟩) h

/-- A move that may clear, after one that lowers no counter and leaves the reply queues. -/
theorem after {p : Prop} {s u t : State} (h : CountersMove p u t) (rise : CountersRise s u)
    (queued : ∀ l, (u.link l).replies = (s.link l).replies) : CountersMove p s t := by
  obtain risen | ⟨cause, cleared⟩ := h
  · exact Or.inl (rise.trans risen)
  · refine Or.inr ⟨cause, fun c => (cleared c).imp id ?_⟩
    rintro ⟨one, l, lost, full⟩
    exact ⟨one, l, lost, by rwa [← queued l]⟩

end CountersMove

/-! ### The request (R155, R165) -/

theorem code_of_requestOf {code : Byte} {q : Request} (named : requestOf code = some q) : q.code = code := by
  simpa using List.find?_some named

/-- The taking of a request lowers a counter only as a CLEAR_COUNTERS, which a busy engine turns away (R156, R172). -/
theorem State.takeRequest_countersMove (s : State) (code : Byte) (h : Handed) (params : List Byte) :
    CountersMove (s.engine = .free ∧ code = 0x0B) s (s.takeRequest code h params) := by
  refine CountersMove.after (u := s.bump (.mgmt .requestsTaken)) ?_ (.bump s _) (by simp)
  unfold State.takeRequest
  dsimp only
  split
  · exact Or.inl (.misunderstood _ h code)
  · next q named =>
    split
    · exact Or.inl (.turnAway _ q h)
    · next served =>
      split
      · by_cases clear : q = .clearCounters
        · subst clear
          have idle : s.busy = false := by simpa [Request.servedBusy] using served
          exact Or.inr ⟨⟨s.busy_eq_false_iff.mp idle, (code_of_requestOf named).symm⟩,
            State.countersCleared_doClearCounters _ h⟩
        · exact Or.inl (.carryOut clear _ h params)
      · exact Or.inl (.answer _ h q _ _)

/-! ### The frames (R78) -/

/-- A MANAGE frame that carries CLEAR_COUNTERS is taken with the engine free. -/
def State.clearCarried (s : State) (body : List Byte) : Prop :=
  s.engine = .free ∧ body.getD 0 0 = 0x6C ∧ body.getD 4 0 = 0x0B

theorem State.takeFrame_countersMove (s : State) (l : Link) (body : List Byte) :
    CountersMove (s.clearCarried body) s (s.takeFrame l body) := by
  unfold State.takeFrame
  split
  · exact Or.inl (.takePart s l body)
  · split
    · next manage =>
      unfold State.takeManage
      split
      · exact Or.inl (.bump s _)
      · dsimp only
        split
        · exact Or.inl (.bump s _)
        · exact (s.takeRequest_countersMove _ _ _).imp fun ⟨free, code⟩ => ⟨free, manage, code⟩
    · exact Or.inl (.bump s _)

/-- The frame buffers of a link but for one that is taken, its replies left. -/
theorem State.served_replies (s : State) (l k : Link) (rest : List (List Byte)) (run : Nat) (owner : Link) :
    ((s.served l rest run owner).link k).replies = (s.link k).replies := by
  cases l <;> cases k <;> rfl

theorem State.arbiterChooses_countersMove (s : State) :
    CountersMove (∃ body, (∃ l, body ∈ (s.link l).buffers) ∧ s.clearCarried body) s s.arbiterChooses := by
  cases occupied : s.arbiter.occupied with
  | true => exact Or.inl (by rw [State.arbiterChooses_occupied occupied]; exact .refl s)
  | false =>
  cases chosen : s.arbitrated with
  | none => exact Or.inl (by rw [State.arbiterChooses_none occupied chosen]; exact .refl s)
  | some choice =>
  obtain ⟨l, run, owner⟩ := choice
  cases waits : (s.link l).buffers with
  | nil =>
    rw [State.arbitrated] at chosen
    simp only [State.arbiterChooses, occupied, Bool.false_eq_true, if_false, chosen, waits]
    exact Or.inl (.refl s)
  | cons body rest =>
    rw [State.arbiterChooses_some occupied chosen waits]
    have taken := (s.served l rest run owner).takeFrame_countersMove l body
    refine (taken.after (.of_same (by simp [State.served])) fun k => s.served_replies l k rest run owner).imp
      fun ⟨free, frame⟩ => ⟨body, ⟨l, by simp [waits]⟩, ?_, frame⟩
    simpa [State.served] using free

theorem State.mem_goodHeld {s : State} {l k : Link} {got body : List Byte}
    (held : body ∈ ((s.goodHeld l ((s.link l).buffers ++ [got])).link k).buffers) :
    body = got ∨ body ∈ (s.link k).buffers := by
  rw [State.goodHeld, State.bump_link] at held
  by_cases same : k = l
  · subst same
    rw [State.link_setLink_same, CarriageLink.beginReply_buffers] at held
    simpa [CarriageLink.withGood, or_comm] using held
  · exact Or.inr (by rwa [State.link_setLink_other _ _ _ _ same] at held)

theorem State.goodHeld_replies (s : State) (l k : Link) (frames : List (List Byte)) :
    ((s.goodHeld l frames).link k).replies = (s.link k).replies := by
  rw [State.goodHeld, State.bump_link]
  by_cases same : k = l
  · subst same
    rw [State.link_setLink_same, CarriageLink.beginReply_replies]
    rfl
  · rw [State.link_setLink_other _ _ _ _ same]

/-- A byte may bring the taking of a frame held, or of the one that it ends. -/
theorem State.receiveByte_countersMove (s : State) (l : Link) (b : Byte) :
    CountersMove (∃ body, ((∃ k, body ∈ (s.link k).buffers) ∨ ∃ f, (s.link l).deframer = .check body (some f))
      ∧ s.clearCarried body) s (s.receiveByte l b) := by
  have moved : ∀ d, CountersRise s (s.deframe l d) := fun d => .of_same (by simp [State.deframe])
  have ended : ∀ d, CountersRise s (s.endAttempt l d) := fun d => .endAttempt s l d
  unfold State.receiveByte
  split
  · exact Or.inl (.ite (moved _) (.refl s))
  · exact Or.inl (moved _)
  · exact Or.inl (.ite (ended _) (.ite (ended _) (moved _)))
  · exact Or.inl (.ite (moved _) (moved _))
  · exact Or.inl (moved _)
  · next got f at_second =>
    unfold State.endFrame
    split
    · exact Or.inl (ended _)
    · split
      · exact Or.inl (ended _)
      · rw [State.goodFrame_eq]
        refine ((State.arbiterChooses_countersMove _).after (.via (.bump _ _) (by simp)) (s.goodHeld_replies l · _)).imp ?_
        rintro ⟨body, ⟨k, held⟩, free, frame⟩
        refine ⟨body, ?_, by simpa [State.goodHeld] using free, frame⟩
        obtain rfl | waiting := State.mem_goodHeld held
        · exact Or.inr ⟨f, at_second⟩
        · exact Or.inl ⟨k, waiting⟩

/-! ### The commands -/

/-- A byte that the front of a queue brings, whatever the queue of the state that it runs in. -/
theorem State.receiveByte_clearComes {s : State} {queue : List Instr} {l : Link} {b : Byte}
    (byte : { s with pending := queue }.byteComes l b) :
    CountersMove { s with pending := queue }.clearComes s (s.receiveByte l b) := by
  refine (s.receiveByte_countersMove l b).imp ?_
  rintro ⟨body, held | ⟨f, at_second⟩, free, frame⟩
  · exact ⟨free, Or.inr (Or.inr ⟨body, Or.inl ⟨held, Or.inr (Or.inr ⟨l, b, byte⟩)⟩, frame⟩)⟩
  · exact ⟨free, Or.inr (Or.inr ⟨body, Or.inr ⟨l, b, f, byte, at_second⟩, frame⟩)⟩

/-- The commands that may lower a counter: a cold start, a CLEAR_COUNTERS, and what may take a frame (R18, R172). -/
def mayClear : Instr → Bool
  | .coldStart => true
  | .leadByte _ => true
  | .frameByte _ _ => true
  | .lengthEnd _ _ => true
  | .frameEnd _ _ => true
  | .admissionFree => true
  | .clearCounters _ _ => true
  | .notUnderstood _ _ _ => true
  | _ => false

theorem State.takeRequest_countersRise (s : State) {q : Request} (other : q ≠ .clearCounters) (h : Handed)
    (params : List Byte) : CountersRise s (s.takeRequest q.code h params) := by
  obtain risen | ⟨⟨-, code⟩, -⟩ := s.takeRequest_countersMove q.code h params
  · exact risen
  · exact absurd (Option.some.inj ((requestOf_code q).symm.trans (congrArg requestOf code))) other

open CountersRise in
/-- Every other command lowers none. -/
theorem exec_countersRise {c : Instr} {s t : State} (hc : mayClear c = false) (h : exec c s = .next t) :
    CountersRise s t := by
  have request : ∀ q h' params, q ≠ Request.clearCounters → CountersRise s (s.takeRequest q.code h' params) :=
    fun q h' params other => s.takeRequest_countersRise other h' params
  match c with
  | .ppsEdge => cases h; exact ppsEdge s
  | .todLeadByte e => cases h; exact todByte s _ e
  | .todMessage second quality check faults =>
    exact todMessage_keeps (P := CountersRise s) (fun u b e risen => risen.trans (todByte u b e)) (refl s) h
  | .badChar l =>
    cases h
    split
    · exact refl s
    · exact endAttempt s l _
  | .gap l => cases h; exact ite (endAttempt s l _) (refl s)
  | .retirement i => cases h; exact ite (retireShadow s i) (refl s)
  | .pacerCarry => cases h; exact (ite (carry s) (refl s)).then_same rfl
  | .status h' params => cases h; exact request .status h' params nofun
  | .read h' params => cases h; exact request .read h' params nofun
  | .write h' params => cases h; exact request .write h' params nofun
  | .digest h' params => cases h; exact request .digest h' params nofun
  | .switch h' params => cases h; exact request .switch h' params nofun
  | .cancelSwitch h' params => cases h; exact request .cancelSwitch h' params nofun
  | .store h' params => cases h; exact request .store h' params nofun
  | .recall h' params => cases h; exact request .recall h' params nofun
  | .abort h' params => cases h; exact request .abort h' params nofun
  | .ackAlarms h' params => cases h; exact request .ackAlarms h' params nofun
  | .setLinkRate h' params => cases h; exact request .setLinkRate h' params nofun
  | .restart h' params => cases h; exact request .restart h' params nofun
  | .storeComplete verified =>
    cases h
    split
    · exact (answer _ _ _ _ _).via (by simp)
    · exact refl s
  | .readFramePlaced =>
    cases h
    split
    · exact ite (placeReadFrame s _) (refl s)
    · exact refl s
  | .readStall => cases h; exact ite ((bump _ _).via rfl) (refl s)
  | .replySent l => cases h; exact ite (replyGone s l) (refl s)
  | .refLost | .ppsMissing => cases h; exact of_same (counters_ite (by simp) rfl)
  | .refBack | .secondBoundary => cases h; exact of_same (counters_ite rfl rfl)
  | .txrdyFall | .warmRestart => cases h; exact of_same (counters_ite (counters_ite rfl rfl) rfl)
  | .switchEvent => cases h; exact of_same (counters_ite (by simp) rfl)
  | .silenceTimeout l => cases h; exact of_same (by simp)
  | .deadline i | .keptEndWhileLate i | .missedLaunch i | .keyUp i | .tailEnd =>
    cases h
    exact of_same (counters_ite (by simp) rfl)
  | .launch =>
    cases h
    split
    · exact of_same (by simp)
    · exact refl s
  | .blockRead =>
    cases h
    refine then_same (of_same ?_) (State.retireNext_counters s _)
    split
    · rfl
    · exact counters_ite (by simp) (by simp)
  | .coldStart | .leadByte _ | .frameByte _ _ | .lengthEnd _ _ | .frameEnd _ _ | .admissionFree | .clearCounters _ _
  | .notUnderstood _ _ _ => cases hc

/-- A command other than COLD_START, whatever waits behind it in the queue. -/
theorem exec_countersMove {c : Instr} {s t : State} (warm : c ≠ .coldStart) (h : exec c s = .next t) (rest : List Instr) :
    CountersMove { s with pending := c :: rest }.clearComes s t := by
  cases hc : mayClear c with
  | false => exact Or.inl (exec_countersRise hc h)
  | true =>
    cases c with
    | coldStart => exact absurd rfl warm
    | leadByte l => cases h; exact State.receiveByte_clearComes (Or.inr (Or.inr (Or.inr ⟨rfl, rfl⟩)))
    | frameByte l b => cases h; exact State.receiveByte_clearComes (Or.inr (Or.inl rfl))
    | lengthEnd l b => cases h; exact State.receiveByte_clearComes (Or.inr (Or.inr (Or.inl rfl)))
    | frameEnd l b => cases h; exact State.receiveByte_clearComes (Or.inl rfl)
    | admissionFree =>
      cases h
      refine (s.admissionFreed.arbiterChooses_countersMove.after (.of_same rfl) fun l => by simp).imp ?_
      rintro ⟨body, ⟨l, held⟩, free, frame⟩
      rw [State.link_admissionFreed] at held
      exact ⟨free, Or.inr (Or.inr ⟨body, Or.inl ⟨⟨l, held⟩, Or.inr (Or.inl rfl)⟩, frame⟩)⟩
    | clearCounters h' params =>
      cases h
      exact (s.takeRequest_countersMove _ h' params).imp fun ⟨free, _⟩ => ⟨free, Or.inl ⟨h', params, rfl⟩⟩
    | notUnderstood h' code params =>
      cases h
      refine (s.takeRequest_countersMove code h' params).imp ?_
      rintro ⟨free, rfl⟩
      exact ⟨free, Or.inr (Or.inl ⟨h', params, rfl⟩)⟩
    | _ => cases hc

/-! ### The step -/

/-- A step is one beat, the command at the front of the queue, or the event that is due on an empty one. -/
theorem step_front_or_due {s t : State} (h : step s = .next t) :
    t = s.beat ∨ (∃ c rest, s.pending = c :: rest ∧ exec c { s with pending := rest } = .next t)
      ∨ (s.pending = [] ∧ ∃ c, s.nextDue = some c ∧ exec c { s with free := s.free + 1 } = .next t) := by
  unfold step at h
  split at h
  · next c rest waiting => exact Or.inr (Or.inl ⟨c, rest, waiting, h⟩)
  · next idle =>
    unfold idleStep at h
    split at h
    · next c due => exact Or.inr (Or.inr ⟨idle, c, due, h⟩)
    · cases h
      exact Or.inl rfl

/-- The event taken on an empty queue has its cause, or it is one of those that go before any other (log 29). -/
theorem State.nextDue_cases {s : State} {c : Instr} (due : s.nextDue = some c) :
    s.causeHolds c = true ∨ c = .warmRestart ∨ ∃ i, c = .missedLaunch i := by
  have there := mem_of_chooseDue due
  split at there
  · exact Or.inl ((s.mem_dueEvents_iff c).mp there)
  · cases called : s.restartCalled with
    | true =>
      rw [State.firstDue_of_called called, List.mem_singleton] at there
      exact Or.inr (Or.inl there)
    | false =>
      obtain ⟨i, -, missed⟩ := (State.mem_firstDue called c).mp there
      exact Or.inr (Or.inr ⟨i, missed⟩)

/-- No byte on a link, and no request, is due: those come from outside (log 1). -/
theorem State.nextDue_within {s : State} {c : Instr} (due : s.nextDue = some c) (hc : mayClear c = true) :
    c = .admissionFree := by
  obtain cause | rfl | ⟨i, rfl⟩ := State.nextDue_cases due
  · cases c with
    | admissionFree => rfl
    | coldStart | leadByte | frameByte | lengthEnd | frameEnd | clearCounters | notUnderstood => cases cause
    | _ => cases hc
  · cases hc
  · cases hc

/-- On an empty queue it is the freeing of the admission engine alone that may lower a counter, by a frame held. -/
theorem clearComes_of_due {s : State} (idle : s.pending = []) {n : Nat}
    (clear : { s with free := n, pending := [.admissionFree] }.clearComes) : s.clearComes := by
  obtain ⟨free, ⟨h, params, front⟩ | ⟨h, params, front⟩ | ⟨body, taken, frame⟩⟩ := clear
  · cases front
  · cases front
  · refine ⟨free, Or.inr (Or.inr ⟨body, ?_, frame⟩)⟩
    obtain ⟨held, -⟩ | ⟨l, b, f, byte, -⟩ := taken
    · exact Or.inl ⟨held, Or.inl idle⟩
    · obtain front | front | front | ⟨-, front⟩ := byte <;> cases front

/-- A step lowers a counter by a COLD_START at the front of the queue, or where a CLEAR_COUNTERS comes. -/
theorem step_countersMove {s t : State} (h : step s = .next t) :
    (s.pending.head? = some .coldStart ∧ ∀ c : Counter, t.counter c = 0) ∨ CountersMove s.clearComes s t := by
  obtain rfl | ⟨c, rest, waiting, run⟩ | ⟨idle, c, due, run⟩ := step_front_or_due h
  · exact Or.inr (Or.inl (.beat s))
  · by_cases cold : c = .coldStart
    · subst cold
      cases run
      exact Or.inl ⟨by rw [waiting]; rfl, counter_of_zeros rfl⟩
    · have moved := exec_countersMove cold run rest
      rw [← waiting] at moved
      exact Or.inr moved
  · cases hc : mayClear c with
    | false => exact Or.inr (Or.inl ((exec_countersRise hc run).via rfl))
    | true =>
      obtain rfl := State.nextDue_within due hc
      exact Or.inr ((exec_countersMove (c := .admissionFree) nofun run []).imp (clearComes_of_due idle))

/-- Settles O13: a step that lowers a counter is a COLD_START, or carries out a CLEAR_COUNTERS and counts no more than the loss
of its reply. -/
theorem countersOnlyRise : Obligations.CountersOnlyRise := by
  unfold Obligations.CountersOnlyRise
  intro s t h
  obtain cold | risen | cleared := step_countersMove h
  · exact Or.inr (Or.inl cold)
  · exact Or.inl risen
  · exact Or.inr (Or.inr cleared)

end Sys2Proof.Machine
end

section
/-! SUPPORT. The bytes of the block pool are left alone by every operation but the storing of a part and a beat: one lemma
for each operation, as `Laws/State.lean` has them for the named updates (R97, R99, R104). A release of blocks changes the
free list alone. -/

namespace Sys2Proof.Machine

/-- A choice between two moves that leave the bytes of the pool leaves them. -/
theorem memory_ite {s t u : State} {p : Prop} [Decidable p] (ht : t.symbols.memory = s.symbols.memory)
    (hu : u.symbols.memory = s.symbols.memory) : (if p then t else u).symbols.memory = s.symbols.memory := by
  split
  · exact ht
  · exact hu

theorem memory_foldl {α : Type} {f : State → α → State} (hf : ∀ s a, (f s a).symbols.memory = s.symbols.memory)
    (xs : List α) (s : State) : (xs.foldl f s).symbols.memory = s.symbols.memory := by
  induction xs generalizing s with
  | nil => rfl
  | cons x xs ih => exact (ih (f s x)).trans (hf s x)

/-! ### The batch table -/

@[simp] theorem State.becomeShadow_memory (s : State) (i : Slot) (o : BatchOutcome) :
    (s.becomeShadow i o).symbols.memory = s.symbols.memory := by
  unfold State.becomeShadow
  split
  · rfl
  · exact memory_ite rfl rfl

@[simp] theorem State.retire_memory (s : State) (i : Slot) (r : Record) (o : BatchOutcome) :
    (s.retire i r o).symbols.memory = s.symbols.memory := rfl

@[simp] theorem State.retireShadow_memory (s : State) (i : Slot) :
    (s.retireShadow i).symbols.memory = s.symbols.memory := by
  unfold State.retireShadow
  split
  · rfl
  · split <;> rfl

@[simp] theorem State.joinRule_memory (s : State) (i : Slot) (r : Record) :
    (s.joinRule i r).symbols.memory = s.symbols.memory := memory_ite (by simp) rfl

@[simp] theorem State.completeRecord_memory (s : State) (i : Slot) :
    (s.completeRecord i).symbols.memory = s.symbols.memory := by
  unfold State.completeRecord
  split
  · rfl
  · exact memory_ite (memory_ite (by simp) rfl) rfl

@[simp] theorem State.deadlineActs_memory (s : State) (i : Slot) :
    (s.deadlineActs i).symbols.memory = s.symbols.memory := by
  unfold State.deadlineActs
  split
  · rfl
  · exact memory_ite (by simp) rfl

@[simp] theorem State.retireNext_memory (before s : State) :
    (State.retireNext before s).symbols.memory = s.symbols.memory := rfl

@[simp] theorem State.takeSwitch_memory (s : State) : s.takeSwitch.symbols.memory = s.symbols.memory := by
  unfold State.takeSwitch
  split <;> rfl

/-! ### Keying -/

@[simp] theorem State.zeroTail_memory (s : State) : s.zeroTail.symbols.memory = s.symbols.memory := memory_ite rfl rfl

@[simp] theorem State.dropRecord_memory (s : State) (i : Slot) (o : BatchOutcome) :
    (s.dropRecord i o).symbols.memory = s.symbols.memory := by
  unfold State.dropRecord
  split
  · rfl
  · dsimp only
    split <;> simp

@[simp] theorem State.becomeKeying_memory (s : State) (i : Slot) (r : Record) :
    (s.becomeKeying i r).symbols.memory = s.symbols.memory := by
  unfold State.becomeKeying
  dsimp only
  split <;> rfl

@[simp] theorem State.refuseKeyUp_memory (s : State) (i : Slot) (o : BatchOutcome) :
    (s.refuseKeyUp i o).symbols.memory = s.symbols.memory := by
  unfold State.refuseKeyUp
  dsimp only
  split <;> simp

@[simp] theorem State.decideKeyUp_memory (s : State) (i : Slot) :
    (s.decideKeyUp i).symbols.memory = s.symbols.memory := by
  unfold State.decideKeyUp
  split
  · rfl
  · refine memory_ite (by simp) (memory_ite (by simp) ?_)
    dsimp only
    split
    · simp
    · exact memory_ite (by simp) (by simp)

@[simp] theorem State.decideThenNext_memory (s : State) (i : Slot) :
    (s.decideThenNext i).symbols.memory = s.symbols.memory := memory_ite (by simp [State.considerNext]) (by simp)

@[simp] theorem State.decideIfDue_memory (s : State) : s.decideIfDue.symbols.memory = s.symbols.memory := by
  unfold State.decideIfDue
  split
  · rfl
  · exact memory_ite (by simp) rfl

@[simp] theorem State.afterTailEntry_memory (before s : State) :
    (State.afterTailEntry before s).symbols.memory = s.symbols.memory :=
  memory_ite ((State.zeroTail_memory _).trans (memory_ite (by simp) rfl)) rfl

@[simp] theorem State.settleKeying_memory (before s : State) :
    (State.settleKeying before s).symbols.memory = s.symbols.memory :=
  (State.afterTailEntry_memory before _).trans (memory_ite (by simp) rfl)

@[simp] theorem State.readOnAir_memory (s : State) (i : Slot) (r : Record) (b : Nat) :
    (s.readOnAir i r b).symbols.memory = s.symbols.memory := by
  unfold State.readOnAir
  split <;> rfl

@[simp] theorem State.readBeforeLaunch_memory (s : State) (i : Slot) (r : Record) (b : Nat) :
    (s.readBeforeLaunch i r b).symbols.memory = s.symbols.memory := by
  unfold State.readBeforeLaunch
  split <;> simp

@[simp] theorem State.endOfSymbols_memory (s : State) (i : Slot) (r : Record) :
    (s.endOfSymbols i r).symbols.memory = s.symbols.memory := by
  have tail : (State.afterTailEntry s ((s.retire i r r.airOutcome).enterTail r.row true)).symbols.memory
      = s.symbols.memory := by simp
  unfold State.endOfSymbols
  dsimp only
  split
  · exact tail
  · exact memory_ite (memory_ite (by simp) rfl) tail

@[simp] theorem State.stopRecord_memory (s : State) (i : Slot) (r : Record) (o : BatchOutcome) :
    (s.stopRecord i r o).symbols.memory = s.symbols.memory := by simp [State.stopRecord]

@[simp] theorem State.carry_memory (s : State) : s.carry.symbols.memory = s.symbols.memory := by
  unfold State.carry
  split
  · rfl
  · split
    · rfl
    · next i _ _ r _ =>
      have onward : (if r.k ≤ s.pacer.symbol + 1 then s.takeCarry.endOfSymbols i r
          else s.takeCarry.nextSymbol i r).symbols.memory = s.symbols.memory := memory_ite (by simp) rfl
      dsimp only
      split
      · exact memory_ite (by simp) onward
      · exact onward

/-! ### The conflict resolver -/

@[simp] theorem State.trim_memory (s : State) (guard : Nat) (i iw : Slot) (w l : Record) :
    (s.trim guard i iw w l).symbols.memory = s.symbols.memory := by
  have waiting : (s.trimWaiting guard i w l).symbols.memory = s.symbols.memory :=
    memory_ite rfl (memory_ite (by simp) rfl)
  have onAir : (s.trimOnAir guard i iw w l).symbols.memory = s.symbols.memory :=
    memory_ite (memory_ite (by simp) rfl) (memory_ite rfl (memory_ite rfl (by simp)))
  unfold State.trim
  split
  · rfl
  · exact onAir
  all_goals exact waiting

theorem State.firstPass_memory (guard : Nat) (new : Slot) (s : State) (e : Slot) :
    (State.firstPass guard new s e).symbols.memory = s.symbols.memory := by
  refine memory_ite rfl ?_
  split
  · exact memory_ite (by simp) rfl
  · rfl

theorem State.secondPass_memory (guard : Nat) (new : Slot) (s : State) (e : Slot) :
    (State.secondPass guard new s e).symbols.memory = s.symbols.memory := by
  refine memory_ite rfl ?_
  split
  · exact memory_ite (by simp) rfl
  · rfl

@[simp] theorem State.resolve_memory (s : State) (new : Slot) : (s.resolve new).symbols.memory = s.symbols.memory :=
  (memory_foldl (State.secondPass_memory _ new) allSlots _).trans
    (memory_foldl (State.firstPass_memory _ new) allSlots s)

/-! ### Links and replies -/

@[simp] theorem State.answer_memory (s : State) (h : Handed) (q : Request) (res : Result) (data : List Byte) :
    (s.answer h q res data).symbols.memory = s.symbols.memory := by
  unfold State.answer
  split <;> simp

@[simp] theorem State.applyRate_memory (s : State) (l : Link) (code : Nat) :
    (s.applyRate l code).symbols.memory = s.symbols.memory := memory_ite (by simp) (by simp)

@[simp] theorem State.silenceCheck_memory (s : State) (l : Link) :
    (s.silenceCheck l).symbols.memory = s.symbols.memory := memory_ite (by simp) rfl

@[simp] theorem State.rateFollows_memory (h : Handed) (old new : Settings) (s : State) (l : Link) :
    (State.rateFollows h old new s l).symbols.memory = s.symbols.memory :=
  memory_ite rfl (memory_ite (by simp) (by simp))

theorem State.installSettings_memory (s : State) (h : Handed) (new : Settings) {reply : State → State}
    (replied : ∀ u, (reply u).symbols.memory = u.symbols.memory) :
    (s.installSettings h new reply).symbols.memory = s.symbols.memory := by
  simp [State.installSettings, replied]

@[simp] theorem State.rateTurn_memory (s : State) (l : Link) : (s.rateTurn l).symbols.memory = s.symbols.memory := by
  unfold State.rateTurn
  split
  · rfl
  · exact memory_ite (by simp) (by simp)

@[simp] theorem State.replyGone_memory (s : State) (l : Link) : (s.replyGone l).symbols.memory = s.symbols.memory := by
  simp [State.replyGone_eq, State.sawPlace_eq]

/-! ### The management engine -/

@[simp] theorem State.writeRows_memory (s : State) (h : Handed) (t : TableId) (first : Nat) (rows : List (List Byte)) :
    (s.writeRows h t first rows).symbols.memory = s.symbols.memory := by
  cases t with
  | settings =>
    simp only [State.writeRows]
    split
    · simp
    · exact State.installSettings_memory s h _ fun u => by simp
  | modes p | zones p =>
    simp only [State.writeRows]
    split <;> simp
  | site p => simp [State.writeRows]
  | history | counters | batches => simp [State.writeRows]

@[simp] theorem State.placeReadFrame_memory (s : State) (op : ReadOp) :
    (s.placeReadFrame op).symbols.memory = s.symbols.memory :=
  congrArg SymbolStore.memory (State.placeReply_symbols s op.handed.link _)

@[simp] theorem State.doRead_memory (s : State) (h : Handed) (params : List Byte) :
    (s.doRead h params).symbols.memory = s.symbols.memory := by
  unfold State.doRead
  dsimp only
  split
  · simp
  · split
    · simp
    · refine memory_ite (by simp) ?_
      split
      · exact memory_ite (by simp) rfl
      all_goals rfl

@[simp] theorem State.doSwitch_memory (s : State) (h : Handed) (params : List Byte) :
    (s.doSwitch h params).symbols.memory = s.symbols.memory := by
  unfold State.doSwitch
  dsimp only
  split
  · exact memory_ite (by simp) (memory_ite (by simp) (by simp))
  · simp

@[simp] theorem State.doRecall_memory (s : State) (h : Handed) : (s.doRecall h).symbols.memory = s.symbols.memory := by
  refine memory_ite (by simp) ?_
  split
  · simp
  · exact State.installSettings_memory _ h _ fun u => by simp

@[simp] theorem State.abortRecord_memory (s : State) (i : Slot) :
    (s.abortRecord i).symbols.memory = s.symbols.memory := by
  unfold State.abortRecord
  split
  · rfl
  · split
    · rfl
    · exact memory_ite rfl rfl
    all_goals simp

@[simp] theorem State.doAbort_memory (s : State) (h : Handed) (params : List Byte) :
    (s.doAbort h params).symbols.memory = s.symbols.memory := by
  refine memory_ite ?_ (memory_ite ?_ (by simp))
  · split <;> simp
  · simpa using memory_foldl State.abortRecord_memory allSlots s

@[simp] theorem State.doSetLinkRate_memory (s : State) (h : Handed) (params : List Byte) :
    (s.doSetLinkRate h params).symbols.memory = s.symbols.memory := by
  unfold State.doSetLinkRate
  dsimp only
  split
  · simp
  · exact memory_ite (by simp) (by simp)

@[simp] theorem State.carryOut_memory (s : State) (q : Request) (h : Handed) (params : List Byte) :
    (s.carryOut q h params).symbols.memory = s.symbols.memory := by
  match q with
  | .status => exact State.answer_memory ..
  | .read => exact s.doRead_memory h params
  | .write =>
    simp only [State.carryOut, State.doWrite]
    split <;> simp
  | .digest =>
    simp only [State.carryOut, State.doDigest]
    split <;> simp
  | .switch => exact s.doSwitch_memory h params
  | .cancelSwitch => exact memory_ite (by simp) (memory_ite (by simp) (by simp))
  | .store => rfl
  | .recall => exact s.doRecall_memory h
  | .abort => exact s.doAbort_memory h params
  | .ackAlarms => exact State.answer_memory ..
  | .clearCounters => exact State.answer_memory ..
  | .setLinkRate => exact s.doSetLinkRate_memory h params
  | .restart => exact State.answer_memory ..

@[simp] theorem State.takeRequest_memory (s : State) (code : Byte) (h : Handed) (params : List Byte) :
    (s.takeRequest code h params).symbols.memory = s.symbols.memory := by
  unfold State.takeRequest
  dsimp only
  split
  · unfold State.misunderstood
    split <;> simp
  · refine memory_ite ?_ (memory_ite (by simp) (by simp))
    unfold State.turnAway
    split <;> simp

@[simp] theorem State.storeEnded_memory (s : State) (op : StoreOp) (verified : Bool) :
    (s.storeEnded op verified).symbols.memory = s.symbols.memory := memory_ite (by simp) (by simp)

/-! ### The site time unit -/

@[simp] theorem State.enterLocked_memory (s : State) : s.enterLocked.symbols.memory = s.symbols.memory := by
  simp [State.enterLocked]

@[simp] theorem State.holdoverFromLocked_memory (s : State) :
    s.holdoverFromLocked.symbols.memory = s.symbols.memory := by simp [State.holdoverFromLocked]

@[simp] theorem State.referenceLost_memory (s : State) : s.referenceLost.symbols.memory = s.symbols.memory := by
  unfold State.referenceLost
  split <;> simp

@[simp] theorem State.todByte_memory (s : State) (b : Byte) (e : Bool) :
    (s.todByte b e).symbols.memory = s.symbols.memory := by
  have judged : ∀ bytes faulty, (s.todComplete bytes faulty).symbols.memory = s.symbols.memory := fun bytes faulty =>
    memory_ite (memory_ite rfl (memory_ite (memory_ite (by simp) rfl) rfl)) rfl
  unfold State.todByte
  split
  · exact memory_ite rfl rfl
  · exact memory_ite rfl (judged _ _)

theorem stepRecord_memory (p q : Instant) (s : State) (i : Slot) :
    (stepRecord p q s i).symbols.memory = s.symbols.memory := by
  have deadline : ∀ s : State, (stepDeadline p q s i).symbols.memory = s.symbols.memory := fun s => by
    unfold stepDeadline
    split
    · exact memory_ite (by simp) rfl
    · rfl
  have keptEnd : ∀ s : State, (stepKeptEnd p q s i).symbols.memory = s.symbols.memory := fun s => by
    unfold stepKeptEnd
    split
    · exact memory_ite (by simp) rfl
    · rfl
  have ready : ∀ s : State, (stepReady p q s i).symbols.memory = s.symbols.memory := fun s => by
    unfold stepReady
    split
    · exact memory_ite (memory_ite (by simp) (memory_ite (by simp) rfl)) rfl
    · rfl
  rw [stepRecord_eq, ready, keptEnd, deadline]

@[simp] theorem State.stepPass_memory (s : State) (p q : Instant) :
    (s.stepPass p q).symbols.memory = s.symbols.memory :=
  memory_ite rfl ((memory_foldl State.retireShadow_memory _ _).trans (memory_foldl (stepRecord_memory p q) _ s))

@[simp] theorem State.stepClock_memory (s : State) (second : Word32) :
    (s.stepClock second).symbols.memory = s.symbols.memory :=
  (State.stepPass_memory _ _ _).trans (memory_ite (by simp) (by simp))

@[simp] theorem State.edgeTaken_memory (s : State) : s.edgeTaken.symbols.memory = s.symbols.memory := by
  unfold State.edgeTaken
  cases s.time.tod <;> rfl

@[simp] theorem State.ppsEdge_memory (s : State) : s.ppsEdge.symbols.memory = s.symbols.memory := by
  have started : ∀ t e, (s.edgeTaken.edgeStarts t e).symbols.memory = s.symbols.memory := fun t e =>
    memory_ite (by simp) (by simp)
  have counted : (s.edgeTaken.runCounted s.time).symbols.memory = s.symbols.memory := s.edgeTaken_memory
  unfold State.ppsEdge
  dsimp only
  split
  · exact started _ _
  · rw [State.edgeAcquiring_eq]
    split
    · exact counted
    · exact memory_ite counted (memory_ite (by simpa using counted) (memory_ite (by simpa using counted) counted))
  · exact memory_ite (by simp) (memory_ite (by simp) (by simp))
  · exact started _ _

/-! ### The restarts and the beat -/

/-- A cold start leaves the contents of the blocks; the free list is built again (R105). -/
@[simp] theorem State.coldStart_memory (s : State) : s.coldStart.symbols.memory = s.symbols.memory := by
  simp only [State.coldStart]

@[simp] theorem State.warmRestart_memory (s : State) : s.warmRestart.symbols.memory = s.symbols.memory := by
  simp only [State.warmRestart]

theorem State.beat_memory_undisturbed {s : State} (still : Config.disturbance s.free = none) :
    s.beat.symbols.memory = s.symbols.memory := by
  simp only [State.beat_eq, still]

/-- The one operation besides the storing of a part that writes the pool: a disturbed byte (R104; log 6). -/
theorem State.beat_memory_disturbed {s : State} {a : Fin 65536} {v : Byte}
    (disturbed : Config.disturbance s.free = some (a, v)) :
    s.beat.symbols.memory = s.symbols.memory.write a.val v := by
  simp only [State.beat_eq, disturbed]

end Sys2Proof.Machine
end

section
/-! SUPPORT. The storing of a part and a beat write the block pool by the operations of `Laws/Memory.lean`, which keep its
canonical form (log 8); every command comes to one of these or leaves the bytes alone. -/

namespace Sys2Proof.Machine

namespace MemoryCanonical

variable {s t u : State}

theorem of_same (hs : MemoryCanonical s) (same : t.symbols.memory = s.symbols.memory) : MemoryCanonical t :=
  (congrArg Memory.wf same).trans hs

theorem ite {p : Prop} [Decidable p] (ht : MemoryCanonical t) (hu : MemoryCanonical u) :
    MemoryCanonical (if p then t else u) := by
  split
  · exact ht
  · exact hu

/-! ### Admission -/

/-- The part is written into the blocks allocated to it (R97, R99). -/
theorem storePart (hs : MemoryCanonical s) (i : Slot) (r : Record) (p : RawPart) (l : Link) :
    MemoryCanonical (s.storePart i r p l) := by
  unfold State.storePart
  split
  · exact hs
  · next chain store taken =>
    have written : MemoryCanonical { s with symbols := store } := SymbolStore.allocate_wf _ _ _ _ _ hs taken
    exact written.of_same (by simp)

theorem placeFirstPart (hs : MemoryCanonical s) (i : Slot) (p : RawPart) (l : Link) :
    MemoryCanonical (s.placeFirstPart i p l) := by
  unfold State.placeFirstPart
  split
  · exact hs
  · next r _ => exact ite (hs.of_same rfl) (hs.storePart i r p l)

theorem newBatch (hs : MemoryCanonical s) (p : RawPart) (l : Link) : MemoryCanonical (s.newBatch p l) := by
  refine ite hs (ite hs (ite hs ?_))
  split
  · exact hs
  · exact (hs.of_same (by simp)).placeFirstPart _ p l

theorem knownBatch (hs : MemoryCanonical s) (i : Slot) (r : Record) (p : RawPart) (l : Link) :
    MemoryCanonical (s.knownBatch i r p l) := by
  refine ite hs (ite hs ?_)
  split
  · exact hs
  · exact hs.storePart i r p l
  all_goals exact hs

theorem takePart (hs : MemoryCanonical s) (l : Link) (body : List Byte) : MemoryCanonical (s.takePart l body) := by
  refine ite hs (ite hs (ite hs (ite hs ?_)))
  split
  · next i _ =>
    split
    · next r _ => exact (hs.knownBatch i r (rawPart body) l).of_same (by simp)
    · exact hs
  · exact (hs.newBatch (rawPart body) l).of_same (by simp [State.followCreation])

theorem takeFrame (hs : MemoryCanonical s) (l : Link) (body : List Byte) : MemoryCanonical (s.takeFrame l body) := by
  refine ite (hs.takePart l body) (ite (ite hs ?_) hs)
  dsimp only
  split
  · exact hs
  · exact hs.of_same (by simp)

theorem arbiterChooses (hs : MemoryCanonical s) : MemoryCanonical s.arbiterChooses := by
  refine ite hs ?_
  split
  · exact hs
  · dsimp only
    split
    · exact hs
    · exact (hs.of_same (by simp)).takeFrame _ _

theorem receiveByte (hs : MemoryCanonical s) (l : Link) (b : Byte) : MemoryCanonical (s.receiveByte l b) := by
  have moved : ∀ d, MemoryCanonical (s.deframe l d) := fun d => hs.of_same (by simp [State.deframe])
  have ended : ∀ d, MemoryCanonical (s.endAttempt l d) := fun d => hs.of_same (by simp)
  have good : ∀ body, MemoryCanonical (s.goodFrame l body) := fun body => ((ended .good).of_same (by simp)).arbiterChooses
  unfold State.receiveByte
  split
  · exact ite (moved _) hs
  · exact moved _
  · exact ite (ended _) (ite (ended _) (moved _))
  · exact ite (moved _) (moved _)
  · exact moved _
  · exact ite (ended _) (ite (ended _) (good _))

/-! ### The beat and the commands -/

/-- A disturbance writes one byte (R104). -/
theorem beat (hs : MemoryCanonical s) : MemoryCanonical s.beat := by
  cases written : Config.disturbance s.free with
  | none => exact hs.of_same (State.beat_memory_undisturbed written)
  | some byte =>
    unfold MemoryCanonical
    rw [State.beat_memory_disturbed written]
    exact Memory.write_wf _ _ _ hs

/-- A command that may end a frame, or frees the admission engine, may store a part; every other leaves the bytes of the pool. -/
theorem exec {c : Instr} (hs : MemoryCanonical s) (h : Machine.exec c s = .next t) : MemoryCanonical t := by
  have followed : ∀ {u}, MemoryCanonical u → MemoryCanonical (State.retireNext s u) := fun hu =>
    hu.of_same (State.retireNext_memory s _)
  match c with
  | .leadByte l => cases h; exact hs.receiveByte l _
  | .frameByte l b | .lengthEnd l b | .frameEnd l b => cases h; exact hs.receiveByte l b
  | .admissionFree => cases h; exact arbiterChooses (s := s.admissionFreed) hs
  | .coldStart => cases h; exact hs.of_same (by simp)
  | .warmRestart => cases h; exact ite (ite hs (hs.of_same (by simp))) hs
  | .refLost | .ppsMissing => cases h; exact ite (hs.of_same (by simp)) hs
  | .refBack | .secondBoundary | .readStall => cases h; exact ite hs hs
  | .ppsEdge => cases h; exact hs.of_same (by simp)
  | .todLeadByte e => cases h; exact hs.of_same (by simp)
  | .todMessage second quality check faults =>
    exact todMessage_keeps (P := MemoryCanonical) (fun u b e hu => hu.of_same (by simp)) hs h
  | .txrdyFall => cases h; exact ite (ite hs hs) hs
  | .switchEvent | .gap l | .retirement i | .replySent l => cases h; exact ite (hs.of_same (by simp)) hs
  | .badChar l =>
    cases h
    split
    · exact hs
    · exact hs.of_same (by simp)
  | .silenceTimeout l => cases h; exact hs.of_same (by simp)
  | .deadline i | .keptEndWhileLate i | .missedLaunch i | .keyUp i | .pacerCarry | .tailEnd =>
    cases h
    exact followed (ite (hs.of_same (by simp)) hs)
  | .launch =>
    cases h
    split
    · exact hs.of_same (by simp)
    · exact hs
  | .blockRead =>
    cases h
    refine followed ?_
    split
    · exact hs
    · exact ite (hs.of_same (by simp)) (hs.of_same (by simp))
  | .status h' params | .read h' params | .write h' params | .digest h' params | .switch h' params
  | .cancelSwitch h' params | .store h' params | .recall h' params | .abort h' params | .ackAlarms h' params
  | .clearCounters h' params | .setLinkRate h' params | .restart h' params =>
    cases h
    exact hs.of_same (s.takeRequest_memory _ h' params)
  | .notUnderstood h' code params => cases h; exact hs.of_same (s.takeRequest_memory code h' params)
  | .storeComplete verified =>
    cases h
    split
    · exact hs.of_same (by simp)
    · exact hs
  | .readFramePlaced =>
    cases h
    split
    · exact ite (hs.of_same (by simp)) hs
    · exact hs

/-- A step keeps the canonical form. -/
theorem step (hs : MemoryCanonical s) (h : Machine.step s = .next t) : MemoryCanonical t := by
  obtain rfl | ⟨c, p, f, run, -⟩ := step_cases h
  · exact hs.beat
  · exact exec (s := { s with pending := p, free := f }) hs run

end MemoryCanonical

/-- Settles O4: a beat and every command write the pool in its canonical form, or not at all. -/
theorem everyStepKeepsMemoryCanonical : Obligations.EveryStepKeepsMemoryCanonical := by
  unfold Obligations.EveryStepKeepsMemoryCanonical
  exact fun s t hs h => hs.step h

end Sys2Proof.Machine
end

section
/-! SUPPORT. The queue: a step runs the command at its front, and every command, as every idle step, ends in a next state. -/

namespace Sys2Proof.Machine

/-- No command stops the part: each arm is a next state (log 3). -/
theorem exec_next (c : Instr) (s : State) : ∃ t, exec c s = .next t := by
  cases c <;> exact ⟨_, rfl⟩

theorem idleStep_next (s : State) : ∃ t, idleStep s = .next t := by
  unfold idleStep
  split
  · exact exec_next _ _
  · exact ⟨_, rfl⟩

/-- The command at the front of the queue is run with the queue's rest. -/
theorem step_of_front {s : State} {c : Instr} {rest : List Instr} (front : s.pending = c :: rest) :
    step s = exec c { s with pending := rest } := by
  simp only [step, front]

theorem step_of_empty {s : State} (empty : s.pending = []) : step s = idleStep s := by
  simp only [step, empty]

theorem step_next (s : State) : ∃ t, step s = .next t := by
  cases waiting : s.pending with
  | nil => rw [step_of_empty waiting]; exact idleStep_next s
  | cons c rest => rw [step_of_front waiting]; exact exec_next c _

/-- Settles O1, by the queue: the command at the front, or an idle step on an empty one. -/
theorem stepRunsTheFrontCommand : Obligations.StepRunsTheFrontCommand := by
  unfold Obligations.StepRunsTheFrontCommand
  exact ⟨fun _ _ => step_of_front rfl, step_next⟩

end Sys2Proof.Machine
end
